-- ==== Sys2Proof/Word.lean ====
section
/-! DEFINITION. The two word widths of the machine (00_scope.md R4): bytes, and 16-bit words for register pairs, SP, PC and addresses. -/

namespace Sys2Proof

/-- A data byte, 8 bits (R4). -/
abbrev Byte := BitVec 8

/-- A 16-bit value: a register pair, SP, PC or an address (R4). -/
abbrev Word := BitVec 16

end Sys2Proof
end

