-- ==== Sys2Proof/Syntax.lean ====
section
/-! DEFINITION. The instructions as data: operand names (30_encoding.md R122 to R126), the descriptor of the instruction table (R131, R132), and `Instr`, one constructor per row of spec/opcode_table.json. -/

namespace Sys2Proof

/-- The 8-bit operand named by a field `r` (R122), in the order of its codes 0 to 7. `atHl` is the memory byte at address HL. -/
inductive R8 where
  | b
  | c
  | d
  | e
  | h
  | l
  | atHl
  | a
deriving DecidableEq, Repr

/-- The 16-bit register named by a field `dd` (R123), in the order of its codes 0 to 3. -/
inductive R16 where
  | bc
  | de
  | hl
  | sp
deriving DecidableEq, Repr

/-- The pair named by a field `qq` of PUSH and POP (R123), in the order of its codes 0 to 3. -/
inductive Pair where
  | bc
  | de
  | hl
  | af
deriving DecidableEq, Repr

/-- The condition named by a field `cc` (R124), in the order of its codes 0 to 3. -/
inductive Cond where
  | nz
  | z
  | nc
  | c
deriving DecidableEq, Repr

/-- The operation named by `op2[5:3]` in group 0 of the prefixed table (R126), in the order of its codes 0 to 7. -/
inductive ShiftOp where
  | rlc
  | rrc
  | rl
  | rr
  | sla
  | sra
  | swap
  | srl
deriving DecidableEq, Repr

/-- An instruction's mnemonic without its operands (R136 lists those of the CORE profile). `prefixCb` is the row PREFIX CB. -/
inductive Mnemonic where
  | nop
  | ld
  | inc
  | dec
  | rlca
  | add
  | rrca
  | stop
  | rla
  | jr
  | rra
  | daa
  | cpl
  | scf
  | ccf
  | halt
  | adc
  | sub
  | sbc
  | and
  | xor
  | or
  | cp
  | ret
  | pop
  | jp
  | call
  | push
  | rst
  | prefixCb
  | reti
  | ldh
  | di
  | ei
  | rlc
  | rrc
  | rl
  | rr
  | sla
  | sra
  | swap
  | srl
  | bit
  | res
  | set
deriving DecidableEq, Repr

/-- The eight instruction formats (R120). -/
inductive Format where
  | op
  | opN8
  | opE8
  | opA8
  | opN16
  | opA16
  | opStop
  | cb
deriving DecidableEq, Repr

/-- What an instruction does to one flag (R132): writes 0, writes 1, leaves it, or writes the value its rule computes. -/
inductive FlagEffect where
  | reset
  | set
  | unaffected
  | depends
deriving DecidableEq, Repr

/-- The flag policy of a descriptor, in the order Z N H C (R132). -/
structure FlagPolicy where
  z : FlagEffect
  n : FlagEffect
  h : FlagEffect
  c : FlagEffect
deriving DecidableEq, Repr

/-- An operand as the mnemonic names it (R131, R142): a register, a memory operand, an immediate, a condition, a bit number or an RST target. -/
inductive Operand where
  | r8 (r : R8)
  | r16 (r : R16)
  | af
  | atBc
  | atDe
  | atHlInc
  | atHlDec
  | atC
  | n8
  | n16
  | e8
  | a16
  | atA8
  | atA16
  | cc (cond : Cond)
  | bit (b : Nat)
  | vector (target : Nat)
deriving DecidableEq, Repr

/-- An InstructionDescriptor (R131): the immutable record of one row of spec/opcode_table.json. -/
structure Descriptor where
  /-- The opcode byte, or the second byte of a prefixed instruction. -/
  opcode : Byte
  /-- Whether the row is of the prefixed space. -/
  prefixed : Bool
  mnemonic : Mnemonic
  format : Format
  operands : List Operand
  flags : FlagPolicy
  /-- Clock cycles, taken and not taken where there are two; informative only (R347). -/
  cycles : List Nat
deriving DecidableEq, Repr

/-- The instructions, one constructor per row of spec/opcode_table.json, with the immediates of its format (R127 to R130). `n8`, `n16`, `a16`, `a8` and `e8` are the immediates as the rules name them; `stop` keeps its ignored second byte (R140); `prefixCb op2` is the row PREFIX CB with its second byte (R266); `illegal op` is the rows without a descriptor (R134, R267), `op` being the byte. The constructors with an operand stand first, because the Lean runtime gives fields only to the first 244 constructors of a type. -/
inductive Instr where
  | ldBcN16 (n16 : Word)
  | ldBN8 (n8 : Byte)
  | ldAtA16Sp (a16 : Word)
  | ldCN8 (n8 : Byte)
  | stop (ignored : Byte)
  | ldDeN16 (n16 : Word)
  | ldDN8 (n8 : Byte)
  | jrE8 (e8 : Byte)
  | ldEN8 (n8 : Byte)
  | jrNzE8 (e8 : Byte)
  | ldHlN16 (n16 : Word)
  | ldHN8 (n8 : Byte)
  | jrZE8 (e8 : Byte)
  | ldLN8 (n8 : Byte)
  | jrNcE8 (e8 : Byte)
  | ldSpN16 (n16 : Word)
  | ldAtHlN8 (n8 : Byte)
  | jrCE8 (e8 : Byte)
  | ldAN8 (n8 : Byte)
  | jpNzA16 (a16 : Word)
  | jpA16 (a16 : Word)
  | callNzA16 (a16 : Word)
  | addAN8 (n8 : Byte)
  | jpZA16 (a16 : Word)
  | prefixCb (op2 : Byte)
  | callZA16 (a16 : Word)
  | callA16 (a16 : Word)
  | adcAN8 (n8 : Byte)
  | jpNcA16 (a16 : Word)
  | illegal (op : Byte)
  | callNcA16 (a16 : Word)
  | subAN8 (n8 : Byte)
  | jpCA16 (a16 : Word)
  | callCA16 (a16 : Word)
  | sbcAN8 (n8 : Byte)
  | ldhAtA8A (a8 : Byte)
  | andAN8 (n8 : Byte)
  | addSpE8 (e8 : Byte)
  | ldAtA16A (a16 : Word)
  | xorAN8 (n8 : Byte)
  | ldhAAtA8 (a8 : Byte)
  | orAN8 (n8 : Byte)
  | ldHlSpE8 (e8 : Byte)
  | ldAAtA16 (a16 : Word)
  | cpAN8 (n8 : Byte)
  | nop
  | ldAtBcA
  | incBc
  | incB
  | decB
  | rlca
  | addHlBc
  | ldAAtBc
  | decBc
  | incC
  | decC
  | rrca
  | ldAtDeA
  | incDe
  | incD
  | decD
  | rla
  | addHlDe
  | ldAAtDe
  | decDe
  | incE
  | decE
  | rra
  | ldAtHlIncA
  | incHl
  | incH
  | decH
  | daa
  | addHlHl
  | ldAAtHlInc
  | decHl
  | incL
  | decL
  | cpl
  | ldAtHlDecA
  | incSp
  | incAtHl
  | decAtHl
  | scf
  | addHlSp
  | ldAAtHlDec
  | decSp
  | incA
  | decA
  | ccf
  | ldBB
  | ldBC
  | ldBD
  | ldBE
  | ldBH
  | ldBL
  | ldBAtHl
  | ldBA
  | ldCB
  | ldCC
  | ldCD
  | ldCE
  | ldCH
  | ldCL
  | ldCAtHl
  | ldCA
  | ldDB
  | ldDC
  | ldDD
  | ldDE
  | ldDH
  | ldDL
  | ldDAtHl
  | ldDA
  | ldEB
  | ldEC
  | ldED
  | ldEE
  | ldEH
  | ldEL
  | ldEAtHl
  | ldEA
  | ldHB
  | ldHC
  | ldHD
  | ldHE
  | ldHH
  | ldHL
  | ldHAtHl
  | ldHA
  | ldLB
  | ldLC
  | ldLD
  | ldLE
  | ldLH
  | ldLL
  | ldLAtHl
  | ldLA
  | ldAtHlB
  | ldAtHlC
  | ldAtHlD
  | ldAtHlE
  | ldAtHlH
  | ldAtHlL
  | halt
  | ldAtHlA
  | ldAB
  | ldAC
  | ldAD
  | ldAE
  | ldAH
  | ldAL
  | ldAAtHl
  | ldAA
  | addAB
  | addAC
  | addAD
  | addAE
  | addAH
  | addAL
  | addAAtHl
  | addAA
  | adcAB
  | adcAC
  | adcAD
  | adcAE
  | adcAH
  | adcAL
  | adcAAtHl
  | adcAA
  | subAB
  | subAC
  | subAD
  | subAE
  | subAH
  | subAL
  | subAAtHl
  | subAA
  | sbcAB
  | sbcAC
  | sbcAD
  | sbcAE
  | sbcAH
  | sbcAL
  | sbcAAtHl
  | sbcAA
  | andAB
  | andAC
  | andAD
  | andAE
  | andAH
  | andAL
  | andAAtHl
  | andAA
  | xorAB
  | xorAC
  | xorAD
  | xorAE
  | xorAH
  | xorAL
  | xorAAtHl
  | xorAA
  | orAB
  | orAC
  | orAD
  | orAE
  | orAH
  | orAL
  | orAAtHl
  | orAA
  | cpAB
  | cpAC
  | cpAD
  | cpAE
  | cpAH
  | cpAL
  | cpAAtHl
  | cpAA
  | retNz
  | popBc
  | pushBc
  | rst00
  | retZ
  | ret
  | rst08
  | retNc
  | popDe
  | pushDe
  | rst10
  | retC
  | reti
  | rst18
  | popHl
  | ldAtCA
  | pushHl
  | rst20
  | jpHl
  | rst28
  | popAf
  | ldAAtC
  | di
  | pushAf
  | rst30
  | ldSpHl
  | ei
  | rst38
  | rlcB
  | rlcC
  | rlcD
  | rlcE
  | rlcH
  | rlcL
  | rlcAtHl
  | rlcA
  | rrcB
  | rrcC
  | rrcD
  | rrcE
  | rrcH
  | rrcL
  | rrcAtHl
  | rrcA
  | rlB
  | rlC
  | rlD
  | rlE
  | rlH
  | rlL
  | rlAtHl
  | rlA
  | rrB
  | rrC
  | rrD
  | rrE
  | rrH
  | rrL
  | rrAtHl
  | rrA
  | slaB
  | slaC
  | slaD
  | slaE
  | slaH
  | slaL
  | slaAtHl
  | slaA
  | sraB
  | sraC
  | sraD
  | sraE
  | sraH
  | sraL
  | sraAtHl
  | sraA
  | swapB
  | swapC
  | swapD
  | swapE
  | swapH
  | swapL
  | swapAtHl
  | swapA
  | srlB
  | srlC
  | srlD
  | srlE
  | srlH
  | srlL
  | srlAtHl
  | srlA
  | bit0B
  | bit0C
  | bit0D
  | bit0E
  | bit0H
  | bit0L
  | bit0AtHl
  | bit0A
  | bit1B
  | bit1C
  | bit1D
  | bit1E
  | bit1H
  | bit1L
  | bit1AtHl
  | bit1A
  | bit2B
  | bit2C
  | bit2D
  | bit2E
  | bit2H
  | bit2L
  | bit2AtHl
  | bit2A
  | bit3B
  | bit3C
  | bit3D
  | bit3E
  | bit3H
  | bit3L
  | bit3AtHl
  | bit3A
  | bit4B
  | bit4C
  | bit4D
  | bit4E
  | bit4H
  | bit4L
  | bit4AtHl
  | bit4A
  | bit5B
  | bit5C
  | bit5D
  | bit5E
  | bit5H
  | bit5L
  | bit5AtHl
  | bit5A
  | bit6B
  | bit6C
  | bit6D
  | bit6E
  | bit6H
  | bit6L
  | bit6AtHl
  | bit6A
  | bit7B
  | bit7C
  | bit7D
  | bit7E
  | bit7H
  | bit7L
  | bit7AtHl
  | bit7A
  | res0B
  | res0C
  | res0D
  | res0E
  | res0H
  | res0L
  | res0AtHl
  | res0A
  | res1B
  | res1C
  | res1D
  | res1E
  | res1H
  | res1L
  | res1AtHl
  | res1A
  | res2B
  | res2C
  | res2D
  | res2E
  | res2H
  | res2L
  | res2AtHl
  | res2A
  | res3B
  | res3C
  | res3D
  | res3E
  | res3H
  | res3L
  | res3AtHl
  | res3A
  | res4B
  | res4C
  | res4D
  | res4E
  | res4H
  | res4L
  | res4AtHl
  | res4A
  | res5B
  | res5C
  | res5D
  | res5E
  | res5H
  | res5L
  | res5AtHl
  | res5A
  | res6B
  | res6C
  | res6D
  | res6E
  | res6H
  | res6L
  | res6AtHl
  | res6A
  | res7B
  | res7C
  | res7D
  | res7E
  | res7H
  | res7L
  | res7AtHl
  | res7A
  | set0B
  | set0C
  | set0D
  | set0E
  | set0H
  | set0L
  | set0AtHl
  | set0A
  | set1B
  | set1C
  | set1D
  | set1E
  | set1H
  | set1L
  | set1AtHl
  | set1A
  | set2B
  | set2C
  | set2D
  | set2E
  | set2H
  | set2L
  | set2AtHl
  | set2A
  | set3B
  | set3C
  | set3D
  | set3E
  | set3H
  | set3L
  | set3AtHl
  | set3A
  | set4B
  | set4C
  | set4D
  | set4E
  | set4H
  | set4L
  | set4AtHl
  | set4A
  | set5B
  | set5C
  | set5D
  | set5E
  | set5H
  | set5L
  | set5AtHl
  | set5A
  | set6B
  | set6C
  | set6D
  | set6E
  | set6H
  | set6L
  | set6AtHl
  | set6A
  | set7B
  | set7C
  | set7D
  | set7E
  | set7H
  | set7L
  | set7AtHl
  | set7A
deriving DecidableEq, Repr

end Sys2Proof
end

