-- ==== Sys2Proof/WellFormed.lean ====
section
/-! DEFINITION. Which terms of `Instr` are the reading of some bytes in memory. -/

namespace Sys2Proof

/-- The eleven opcodes with no descriptor (R134). -/
def illegalOpcodes : List Byte :=
  [0xD3, 0xDB, 0xDD, 0xE3, 0xE4, 0xEB, 0xEC, 0xED, 0xF4, 0xFC, 0xFD]

/-- Whether a term stands for an instruction as the decoder reads it. `illegal` needs one of the eleven bytes (R134). `prefixCb` is never read as an instruction of its own: the prefix and its second byte are one instruction, the prefixed one (R266). The operands of every other constructor fill the bytes of its format, so it has no ill-formed term. -/
def Instr.wf (i : Instr) : Bool :=
  match i with
  | .illegal op => illegalOpcodes.contains op
  | .prefixCb _ => false
  | _ => true

end Sys2Proof
end

