-- ==== Sys2Proof/Decode.lean ====
section
/-! DEFINITION. The decoder and the encoder (30_encoding.md R120 to R135, 30_encoding.md section 6). Decoding is total on any bytes: an opcode without a descriptor decodes to `illegal`, and too few bytes are rejected by name. -/

namespace Sys2Proof

/-- The word of a low and a high byte: a 16-bit immediate is little-endian (R128), and a pair's first register is its high byte (R24). -/
def wordOf (lo hi : Byte) : Word := hi ++ lo

/-- Bits 7 to 0 of a word. -/
def loByte (w : Word) : Byte := w.extractLsb' 0 8

/-- Bits 15 to 8 of a word. -/
def hiByte (w : Word) : Byte := w.extractLsb' 8 8

/-- `sext_16` (R7): the 16-bit two's-complement sign extension of a byte. -/
def sext16 (v : Byte) : Word := v.signExtend 16

/-- Row 0x of the primary opcode map (30_encoding.md section 6): what each opcode makes of the two bytes after it. -/
def primaryRow0 : List (Byte → Byte → Instr) :=
  [fun _ _ => .nop,
   fun lo hi => .ldBcN16 (wordOf lo hi),
   fun _ _ => .ldAtBcA,
   fun _ _ => .incBc,
   fun _ _ => .incB,
   fun _ _ => .decB,
   fun lo _ => .ldBN8 lo,
   fun _ _ => .rlca,
   fun lo hi => .ldAtA16Sp (wordOf lo hi),
   fun _ _ => .addHlBc,
   fun _ _ => .ldAAtBc,
   fun _ _ => .decBc,
   fun _ _ => .incC,
   fun _ _ => .decC,
   fun lo _ => .ldCN8 lo,
   fun _ _ => .rrca]

/-- Row 1x of the primary opcode map (30_encoding.md section 6): what each opcode makes of the two bytes after it. -/
def primaryRow1 : List (Byte → Byte → Instr) :=
  [fun lo _ => .stop lo,
   fun lo hi => .ldDeN16 (wordOf lo hi),
   fun _ _ => .ldAtDeA,
   fun _ _ => .incDe,
   fun _ _ => .incD,
   fun _ _ => .decD,
   fun lo _ => .ldDN8 lo,
   fun _ _ => .rla,
   fun lo _ => .jrE8 lo,
   fun _ _ => .addHlDe,
   fun _ _ => .ldAAtDe,
   fun _ _ => .decDe,
   fun _ _ => .incE,
   fun _ _ => .decE,
   fun lo _ => .ldEN8 lo,
   fun _ _ => .rra]

/-- Row 2x of the primary opcode map (30_encoding.md section 6): what each opcode makes of the two bytes after it. -/
def primaryRow2 : List (Byte → Byte → Instr) :=
  [fun lo _ => .jrNzE8 lo,
   fun lo hi => .ldHlN16 (wordOf lo hi),
   fun _ _ => .ldAtHlIncA,
   fun _ _ => .incHl,
   fun _ _ => .incH,
   fun _ _ => .decH,
   fun lo _ => .ldHN8 lo,
   fun _ _ => .daa,
   fun lo _ => .jrZE8 lo,
   fun _ _ => .addHlHl,
   fun _ _ => .ldAAtHlInc,
   fun _ _ => .decHl,
   fun _ _ => .incL,
   fun _ _ => .decL,
   fun lo _ => .ldLN8 lo,
   fun _ _ => .cpl]

/-- Row 3x of the primary opcode map (30_encoding.md section 6): what each opcode makes of the two bytes after it. -/
def primaryRow3 : List (Byte → Byte → Instr) :=
  [fun lo _ => .jrNcE8 lo,
   fun lo hi => .ldSpN16 (wordOf lo hi),
   fun _ _ => .ldAtHlDecA,
   fun _ _ => .incSp,
   fun _ _ => .incAtHl,
   fun _ _ => .decAtHl,
   fun lo _ => .ldAtHlN8 lo,
   fun _ _ => .scf,
   fun lo _ => .jrCE8 lo,
   fun _ _ => .addHlSp,
   fun _ _ => .ldAAtHlDec,
   fun _ _ => .decSp,
   fun _ _ => .incA,
   fun _ _ => .decA,
   fun lo _ => .ldAN8 lo,
   fun _ _ => .ccf]

/-- Row 4x of the primary opcode map (30_encoding.md section 6): what each opcode makes of the two bytes after it. -/
def primaryRow4 : List (Byte → Byte → Instr) :=
  [fun _ _ => .ldBB,
   fun _ _ => .ldBC,
   fun _ _ => .ldBD,
   fun _ _ => .ldBE,
   fun _ _ => .ldBH,
   fun _ _ => .ldBL,
   fun _ _ => .ldBAtHl,
   fun _ _ => .ldBA,
   fun _ _ => .ldCB,
   fun _ _ => .ldCC,
   fun _ _ => .ldCD,
   fun _ _ => .ldCE,
   fun _ _ => .ldCH,
   fun _ _ => .ldCL,
   fun _ _ => .ldCAtHl,
   fun _ _ => .ldCA]

/-- Row 5x of the primary opcode map (30_encoding.md section 6): what each opcode makes of the two bytes after it. -/
def primaryRow5 : List (Byte → Byte → Instr) :=
  [fun _ _ => .ldDB,
   fun _ _ => .ldDC,
   fun _ _ => .ldDD,
   fun _ _ => .ldDE,
   fun _ _ => .ldDH,
   fun _ _ => .ldDL,
   fun _ _ => .ldDAtHl,
   fun _ _ => .ldDA,
   fun _ _ => .ldEB,
   fun _ _ => .ldEC,
   fun _ _ => .ldED,
   fun _ _ => .ldEE,
   fun _ _ => .ldEH,
   fun _ _ => .ldEL,
   fun _ _ => .ldEAtHl,
   fun _ _ => .ldEA]

/-- Row 6x of the primary opcode map (30_encoding.md section 6): what each opcode makes of the two bytes after it. -/
def primaryRow6 : List (Byte → Byte → Instr) :=
  [fun _ _ => .ldHB,
   fun _ _ => .ldHC,
   fun _ _ => .ldHD,
   fun _ _ => .ldHE,
   fun _ _ => .ldHH,
   fun _ _ => .ldHL,
   fun _ _ => .ldHAtHl,
   fun _ _ => .ldHA,
   fun _ _ => .ldLB,
   fun _ _ => .ldLC,
   fun _ _ => .ldLD,
   fun _ _ => .ldLE,
   fun _ _ => .ldLH,
   fun _ _ => .ldLL,
   fun _ _ => .ldLAtHl,
   fun _ _ => .ldLA]

/-- Row 7x of the primary opcode map (30_encoding.md section 6): what each opcode makes of the two bytes after it. -/
def primaryRow7 : List (Byte → Byte → Instr) :=
  [fun _ _ => .ldAtHlB,
   fun _ _ => .ldAtHlC,
   fun _ _ => .ldAtHlD,
   fun _ _ => .ldAtHlE,
   fun _ _ => .ldAtHlH,
   fun _ _ => .ldAtHlL,
   fun _ _ => .halt,
   fun _ _ => .ldAtHlA,
   fun _ _ => .ldAB,
   fun _ _ => .ldAC,
   fun _ _ => .ldAD,
   fun _ _ => .ldAE,
   fun _ _ => .ldAH,
   fun _ _ => .ldAL,
   fun _ _ => .ldAAtHl,
   fun _ _ => .ldAA]

/-- Row 8x of the primary opcode map (30_encoding.md section 6): what each opcode makes of the two bytes after it. -/
def primaryRow8 : List (Byte → Byte → Instr) :=
  [fun _ _ => .addAB,
   fun _ _ => .addAC,
   fun _ _ => .addAD,
   fun _ _ => .addAE,
   fun _ _ => .addAH,
   fun _ _ => .addAL,
   fun _ _ => .addAAtHl,
   fun _ _ => .addAA,
   fun _ _ => .adcAB,
   fun _ _ => .adcAC,
   fun _ _ => .adcAD,
   fun _ _ => .adcAE,
   fun _ _ => .adcAH,
   fun _ _ => .adcAL,
   fun _ _ => .adcAAtHl,
   fun _ _ => .adcAA]

/-- Row 9x of the primary opcode map (30_encoding.md section 6): what each opcode makes of the two bytes after it. -/
def primaryRow9 : List (Byte → Byte → Instr) :=
  [fun _ _ => .subAB,
   fun _ _ => .subAC,
   fun _ _ => .subAD,
   fun _ _ => .subAE,
   fun _ _ => .subAH,
   fun _ _ => .subAL,
   fun _ _ => .subAAtHl,
   fun _ _ => .subAA,
   fun _ _ => .sbcAB,
   fun _ _ => .sbcAC,
   fun _ _ => .sbcAD,
   fun _ _ => .sbcAE,
   fun _ _ => .sbcAH,
   fun _ _ => .sbcAL,
   fun _ _ => .sbcAAtHl,
   fun _ _ => .sbcAA]

/-- Row Ax of the primary opcode map (30_encoding.md section 6): what each opcode makes of the two bytes after it. -/
def primaryRowA : List (Byte → Byte → Instr) :=
  [fun _ _ => .andAB,
   fun _ _ => .andAC,
   fun _ _ => .andAD,
   fun _ _ => .andAE,
   fun _ _ => .andAH,
   fun _ _ => .andAL,
   fun _ _ => .andAAtHl,
   fun _ _ => .andAA,
   fun _ _ => .xorAB,
   fun _ _ => .xorAC,
   fun _ _ => .xorAD,
   fun _ _ => .xorAE,
   fun _ _ => .xorAH,
   fun _ _ => .xorAL,
   fun _ _ => .xorAAtHl,
   fun _ _ => .xorAA]

/-- Row Bx of the primary opcode map (30_encoding.md section 6): what each opcode makes of the two bytes after it. -/
def primaryRowB : List (Byte → Byte → Instr) :=
  [fun _ _ => .orAB,
   fun _ _ => .orAC,
   fun _ _ => .orAD,
   fun _ _ => .orAE,
   fun _ _ => .orAH,
   fun _ _ => .orAL,
   fun _ _ => .orAAtHl,
   fun _ _ => .orAA,
   fun _ _ => .cpAB,
   fun _ _ => .cpAC,
   fun _ _ => .cpAD,
   fun _ _ => .cpAE,
   fun _ _ => .cpAH,
   fun _ _ => .cpAL,
   fun _ _ => .cpAAtHl,
   fun _ _ => .cpAA]

/-- Row Cx of the primary opcode map (30_encoding.md section 6): what each opcode makes of the two bytes after it. -/
def primaryRowC : List (Byte → Byte → Instr) :=
  [fun _ _ => .retNz,
   fun _ _ => .popBc,
   fun lo hi => .jpNzA16 (wordOf lo hi),
   fun lo hi => .jpA16 (wordOf lo hi),
   fun lo hi => .callNzA16 (wordOf lo hi),
   fun _ _ => .pushBc,
   fun lo _ => .addAN8 lo,
   fun _ _ => .rst00,
   fun _ _ => .retZ,
   fun _ _ => .ret,
   fun lo hi => .jpZA16 (wordOf lo hi),
   fun lo _ => .prefixCb lo,
   fun lo hi => .callZA16 (wordOf lo hi),
   fun lo hi => .callA16 (wordOf lo hi),
   fun lo _ => .adcAN8 lo,
   fun _ _ => .rst08]

/-- Row Dx of the primary opcode map (30_encoding.md section 6): what each opcode makes of the two bytes after it. -/
def primaryRowD : List (Byte → Byte → Instr) :=
  [fun _ _ => .retNc,
   fun _ _ => .popDe,
   fun lo hi => .jpNcA16 (wordOf lo hi),
   fun _ _ => .illegal 0xD3,
   fun lo hi => .callNcA16 (wordOf lo hi),
   fun _ _ => .pushDe,
   fun lo _ => .subAN8 lo,
   fun _ _ => .rst10,
   fun _ _ => .retC,
   fun _ _ => .reti,
   fun lo hi => .jpCA16 (wordOf lo hi),
   fun _ _ => .illegal 0xDB,
   fun lo hi => .callCA16 (wordOf lo hi),
   fun _ _ => .illegal 0xDD,
   fun lo _ => .sbcAN8 lo,
   fun _ _ => .rst18]

/-- Row Ex of the primary opcode map (30_encoding.md section 6): what each opcode makes of the two bytes after it. -/
def primaryRowE : List (Byte → Byte → Instr) :=
  [fun lo _ => .ldhAtA8A lo,
   fun _ _ => .popHl,
   fun _ _ => .ldAtCA,
   fun _ _ => .illegal 0xE3,
   fun _ _ => .illegal 0xE4,
   fun _ _ => .pushHl,
   fun lo _ => .andAN8 lo,
   fun _ _ => .rst20,
   fun lo _ => .addSpE8 lo,
   fun _ _ => .jpHl,
   fun lo hi => .ldAtA16A (wordOf lo hi),
   fun _ _ => .illegal 0xEB,
   fun _ _ => .illegal 0xEC,
   fun _ _ => .illegal 0xED,
   fun lo _ => .xorAN8 lo,
   fun _ _ => .rst28]

/-- Row Fx of the primary opcode map (30_encoding.md section 6): what each opcode makes of the two bytes after it. -/
def primaryRowF : List (Byte → Byte → Instr) :=
  [fun lo _ => .ldhAAtA8 lo,
   fun _ _ => .popAf,
   fun _ _ => .ldAAtC,
   fun _ _ => .di,
   fun _ _ => .illegal 0xF4,
   fun _ _ => .pushAf,
   fun lo _ => .orAN8 lo,
   fun _ _ => .rst30,
   fun lo _ => .ldHlSpE8 lo,
   fun _ _ => .ldSpHl,
   fun lo hi => .ldAAtA16 (wordOf lo hi),
   fun _ _ => .ei,
   fun _ _ => .illegal 0xFC,
   fun _ _ => .illegal 0xFD,
   fun lo _ => .cpAN8 lo,
   fun _ _ => .rst38]

/-- The primary table, in opcode order (R133). -/
def primaryTable : List (Byte → Byte → Instr) :=
  primaryRow0 ++ primaryRow1 ++ primaryRow2 ++ primaryRow3 ++ primaryRow4 ++ primaryRow5 ++ primaryRow6 ++ primaryRow7 ++ 
  primaryRow8 ++ primaryRow9 ++ primaryRowA ++ primaryRowB ++ primaryRowC ++ primaryRowD ++ primaryRowE ++ primaryRowF

/-- Second bytes 00 to 0F of the prefixed table (R126). -/
def prefixedRow0 : List Instr :=
  [.rlcB, .rlcC, .rlcD, .rlcE, .rlcH, .rlcL, .rlcAtHl, .rlcA,
   .rrcB, .rrcC, .rrcD, .rrcE, .rrcH, .rrcL, .rrcAtHl, .rrcA]

/-- Second bytes 10 to 1F of the prefixed table (R126). -/
def prefixedRow1 : List Instr :=
  [.rlB, .rlC, .rlD, .rlE, .rlH, .rlL, .rlAtHl, .rlA,
   .rrB, .rrC, .rrD, .rrE, .rrH, .rrL, .rrAtHl, .rrA]

/-- Second bytes 20 to 2F of the prefixed table (R126). -/
def prefixedRow2 : List Instr :=
  [.slaB, .slaC, .slaD, .slaE, .slaH, .slaL, .slaAtHl, .slaA,
   .sraB, .sraC, .sraD, .sraE, .sraH, .sraL, .sraAtHl, .sraA]

/-- Second bytes 30 to 3F of the prefixed table (R126). -/
def prefixedRow3 : List Instr :=
  [.swapB, .swapC, .swapD, .swapE, .swapH, .swapL, .swapAtHl, .swapA,
   .srlB, .srlC, .srlD, .srlE, .srlH, .srlL, .srlAtHl, .srlA]

/-- Second bytes 40 to 4F of the prefixed table (R126). -/
def prefixedRow4 : List Instr :=
  [.bit0B, .bit0C, .bit0D, .bit0E, .bit0H, .bit0L, .bit0AtHl, .bit0A,
   .bit1B, .bit1C, .bit1D, .bit1E, .bit1H, .bit1L, .bit1AtHl, .bit1A]

/-- Second bytes 50 to 5F of the prefixed table (R126). -/
def prefixedRow5 : List Instr :=
  [.bit2B, .bit2C, .bit2D, .bit2E, .bit2H, .bit2L, .bit2AtHl, .bit2A,
   .bit3B, .bit3C, .bit3D, .bit3E, .bit3H, .bit3L, .bit3AtHl, .bit3A]

/-- Second bytes 60 to 6F of the prefixed table (R126). -/
def prefixedRow6 : List Instr :=
  [.bit4B, .bit4C, .bit4D, .bit4E, .bit4H, .bit4L, .bit4AtHl, .bit4A,
   .bit5B, .bit5C, .bit5D, .bit5E, .bit5H, .bit5L, .bit5AtHl, .bit5A]

/-- Second bytes 70 to 7F of the prefixed table (R126). -/
def prefixedRow7 : List Instr :=
  [.bit6B, .bit6C, .bit6D, .bit6E, .bit6H, .bit6L, .bit6AtHl, .bit6A,
   .bit7B, .bit7C, .bit7D, .bit7E, .bit7H, .bit7L, .bit7AtHl, .bit7A]

/-- Second bytes 80 to 8F of the prefixed table (R126). -/
def prefixedRow8 : List Instr :=
  [.res0B, .res0C, .res0D, .res0E, .res0H, .res0L, .res0AtHl, .res0A,
   .res1B, .res1C, .res1D, .res1E, .res1H, .res1L, .res1AtHl, .res1A]

/-- Second bytes 90 to 9F of the prefixed table (R126). -/
def prefixedRow9 : List Instr :=
  [.res2B, .res2C, .res2D, .res2E, .res2H, .res2L, .res2AtHl, .res2A,
   .res3B, .res3C, .res3D, .res3E, .res3H, .res3L, .res3AtHl, .res3A]

/-- Second bytes A0 to AF of the prefixed table (R126). -/
def prefixedRowA : List Instr :=
  [.res4B, .res4C, .res4D, .res4E, .res4H, .res4L, .res4AtHl, .res4A,
   .res5B, .res5C, .res5D, .res5E, .res5H, .res5L, .res5AtHl, .res5A]

/-- Second bytes B0 to BF of the prefixed table (R126). -/
def prefixedRowB : List Instr :=
  [.res6B, .res6C, .res6D, .res6E, .res6H, .res6L, .res6AtHl, .res6A,
   .res7B, .res7C, .res7D, .res7E, .res7H, .res7L, .res7AtHl, .res7A]

/-- Second bytes C0 to CF of the prefixed table (R126). -/
def prefixedRowC : List Instr :=
  [.set0B, .set0C, .set0D, .set0E, .set0H, .set0L, .set0AtHl, .set0A,
   .set1B, .set1C, .set1D, .set1E, .set1H, .set1L, .set1AtHl, .set1A]

/-- Second bytes D0 to DF of the prefixed table (R126). -/
def prefixedRowD : List Instr :=
  [.set2B, .set2C, .set2D, .set2E, .set2H, .set2L, .set2AtHl, .set2A,
   .set3B, .set3C, .set3D, .set3E, .set3H, .set3L, .set3AtHl, .set3A]

/-- Second bytes E0 to EF of the prefixed table (R126). -/
def prefixedRowE : List Instr :=
  [.set4B, .set4C, .set4D, .set4E, .set4H, .set4L, .set4AtHl, .set4A,
   .set5B, .set5C, .set5D, .set5E, .set5H, .set5L, .set5AtHl, .set5A]

/-- Second bytes F0 to FF of the prefixed table (R126). -/
def prefixedRowF : List Instr :=
  [.set6B, .set6C, .set6D, .set6E, .set6H, .set6L, .set6AtHl, .set6A,
   .set7B, .set7C, .set7D, .set7E, .set7H, .set7L, .set7AtHl, .set7A]

/-- The prefixed table, in the order of the second byte (R133, R135). -/
def prefixedTable : List Instr :=
  prefixedRow0 ++ prefixedRow1 ++ prefixedRow2 ++ prefixedRow3 ++ prefixedRow4 ++ prefixedRow5 ++ prefixedRow6 ++ prefixedRow7 ++ 
  prefixedRow8 ++ prefixedRow9 ++ prefixedRowA ++ prefixedRowB ++ prefixedRowC ++ prefixedRowD ++ prefixedRowE ++ prefixedRowF

/-- Lookup in the primary space, with the two bytes that follow: 0xCB gives the row PREFIX CB (R133, R137). -/
def decodePrimary (op b1 b2 : Byte) : Instr :=
  ((primaryTable[op.toNat]?).getD fun _ _ => .illegal op) b1 b2

/-- Lookup in the prefixed space; every second byte has a row (R135). -/
def decodePrefixed (op2 : Byte) : Instr :=
  (prefixedTable[op2.toNat]?).getD (.prefixCb op2)

/-- The instruction at three consecutive bytes: the prefix 0xCB selects the prefixed table, and bytes past the instruction's length are not looked at (R120, R137, R266). -/
def decodeBytes (b0 b1 b2 : Byte) : Instr :=
  if b0 = 0xCB then decodePrefixed b1 else decodePrimary b0 b1 b2

/-- The bytes of an instruction, first byte first (R120). -/
def encode (i : Instr) : List Byte :=
  match i with
  | .nop => [0x00]
  | .ldBcN16 n16 => [0x01, loByte n16, hiByte n16]
  | .ldAtBcA => [0x02]
  | .incBc => [0x03]
  | .incB => [0x04]
  | .decB => [0x05]
  | .ldBN8 n8 => [0x06, n8]
  | .rlca => [0x07]
  | .ldAtA16Sp a16 => [0x08, loByte a16, hiByte a16]
  | .addHlBc => [0x09]
  | .ldAAtBc => [0x0A]
  | .decBc => [0x0B]
  | .incC => [0x0C]
  | .decC => [0x0D]
  | .ldCN8 n8 => [0x0E, n8]
  | .rrca => [0x0F]
  | .stop ignored => [0x10, ignored]
  | .ldDeN16 n16 => [0x11, loByte n16, hiByte n16]
  | .ldAtDeA => [0x12]
  | .incDe => [0x13]
  | .incD => [0x14]
  | .decD => [0x15]
  | .ldDN8 n8 => [0x16, n8]
  | .rla => [0x17]
  | .jrE8 e8 => [0x18, e8]
  | .addHlDe => [0x19]
  | .ldAAtDe => [0x1A]
  | .decDe => [0x1B]
  | .incE => [0x1C]
  | .decE => [0x1D]
  | .ldEN8 n8 => [0x1E, n8]
  | .rra => [0x1F]
  | .jrNzE8 e8 => [0x20, e8]
  | .ldHlN16 n16 => [0x21, loByte n16, hiByte n16]
  | .ldAtHlIncA => [0x22]
  | .incHl => [0x23]
  | .incH => [0x24]
  | .decH => [0x25]
  | .ldHN8 n8 => [0x26, n8]
  | .daa => [0x27]
  | .jrZE8 e8 => [0x28, e8]
  | .addHlHl => [0x29]
  | .ldAAtHlInc => [0x2A]
  | .decHl => [0x2B]
  | .incL => [0x2C]
  | .decL => [0x2D]
  | .ldLN8 n8 => [0x2E, n8]
  | .cpl => [0x2F]
  | .jrNcE8 e8 => [0x30, e8]
  | .ldSpN16 n16 => [0x31, loByte n16, hiByte n16]
  | .ldAtHlDecA => [0x32]
  | .incSp => [0x33]
  | .incAtHl => [0x34]
  | .decAtHl => [0x35]
  | .ldAtHlN8 n8 => [0x36, n8]
  | .scf => [0x37]
  | .jrCE8 e8 => [0x38, e8]
  | .addHlSp => [0x39]
  | .ldAAtHlDec => [0x3A]
  | .decSp => [0x3B]
  | .incA => [0x3C]
  | .decA => [0x3D]
  | .ldAN8 n8 => [0x3E, n8]
  | .ccf => [0x3F]
  | .ldBB => [0x40]
  | .ldBC => [0x41]
  | .ldBD => [0x42]
  | .ldBE => [0x43]
  | .ldBH => [0x44]
  | .ldBL => [0x45]
  | .ldBAtHl => [0x46]
  | .ldBA => [0x47]
  | .ldCB => [0x48]
  | .ldCC => [0x49]
  | .ldCD => [0x4A]
  | .ldCE => [0x4B]
  | .ldCH => [0x4C]
  | .ldCL => [0x4D]
  | .ldCAtHl => [0x4E]
  | .ldCA => [0x4F]
  | .ldDB => [0x50]
  | .ldDC => [0x51]
  | .ldDD => [0x52]
  | .ldDE => [0x53]
  | .ldDH => [0x54]
  | .ldDL => [0x55]
  | .ldDAtHl => [0x56]
  | .ldDA => [0x57]
  | .ldEB => [0x58]
  | .ldEC => [0x59]
  | .ldED => [0x5A]
  | .ldEE => [0x5B]
  | .ldEH => [0x5C]
  | .ldEL => [0x5D]
  | .ldEAtHl => [0x5E]
  | .ldEA => [0x5F]
  | .ldHB => [0x60]
  | .ldHC => [0x61]
  | .ldHD => [0x62]
  | .ldHE => [0x63]
  | .ldHH => [0x64]
  | .ldHL => [0x65]
  | .ldHAtHl => [0x66]
  | .ldHA => [0x67]
  | .ldLB => [0x68]
  | .ldLC => [0x69]
  | .ldLD => [0x6A]
  | .ldLE => [0x6B]
  | .ldLH => [0x6C]
  | .ldLL => [0x6D]
  | .ldLAtHl => [0x6E]
  | .ldLA => [0x6F]
  | .ldAtHlB => [0x70]
  | .ldAtHlC => [0x71]
  | .ldAtHlD => [0x72]
  | .ldAtHlE => [0x73]
  | .ldAtHlH => [0x74]
  | .ldAtHlL => [0x75]
  | .halt => [0x76]
  | .ldAtHlA => [0x77]
  | .ldAB => [0x78]
  | .ldAC => [0x79]
  | .ldAD => [0x7A]
  | .ldAE => [0x7B]
  | .ldAH => [0x7C]
  | .ldAL => [0x7D]
  | .ldAAtHl => [0x7E]
  | .ldAA => [0x7F]
  | .addAB => [0x80]
  | .addAC => [0x81]
  | .addAD => [0x82]
  | .addAE => [0x83]
  | .addAH => [0x84]
  | .addAL => [0x85]
  | .addAAtHl => [0x86]
  | .addAA => [0x87]
  | .adcAB => [0x88]
  | .adcAC => [0x89]
  | .adcAD => [0x8A]
  | .adcAE => [0x8B]
  | .adcAH => [0x8C]
  | .adcAL => [0x8D]
  | .adcAAtHl => [0x8E]
  | .adcAA => [0x8F]
  | .subAB => [0x90]
  | .subAC => [0x91]
  | .subAD => [0x92]
  | .subAE => [0x93]
  | .subAH => [0x94]
  | .subAL => [0x95]
  | .subAAtHl => [0x96]
  | .subAA => [0x97]
  | .sbcAB => [0x98]
  | .sbcAC => [0x99]
  | .sbcAD => [0x9A]
  | .sbcAE => [0x9B]
  | .sbcAH => [0x9C]
  | .sbcAL => [0x9D]
  | .sbcAAtHl => [0x9E]
  | .sbcAA => [0x9F]
  | .andAB => [0xA0]
  | .andAC => [0xA1]
  | .andAD => [0xA2]
  | .andAE => [0xA3]
  | .andAH => [0xA4]
  | .andAL => [0xA5]
  | .andAAtHl => [0xA6]
  | .andAA => [0xA7]
  | .xorAB => [0xA8]
  | .xorAC => [0xA9]
  | .xorAD => [0xAA]
  | .xorAE => [0xAB]
  | .xorAH => [0xAC]
  | .xorAL => [0xAD]
  | .xorAAtHl => [0xAE]
  | .xorAA => [0xAF]
  | .orAB => [0xB0]
  | .orAC => [0xB1]
  | .orAD => [0xB2]
  | .orAE => [0xB3]
  | .orAH => [0xB4]
  | .orAL => [0xB5]
  | .orAAtHl => [0xB6]
  | .orAA => [0xB7]
  | .cpAB => [0xB8]
  | .cpAC => [0xB9]
  | .cpAD => [0xBA]
  | .cpAE => [0xBB]
  | .cpAH => [0xBC]
  | .cpAL => [0xBD]
  | .cpAAtHl => [0xBE]
  | .cpAA => [0xBF]
  | .retNz => [0xC0]
  | .popBc => [0xC1]
  | .jpNzA16 a16 => [0xC2, loByte a16, hiByte a16]
  | .jpA16 a16 => [0xC3, loByte a16, hiByte a16]
  | .callNzA16 a16 => [0xC4, loByte a16, hiByte a16]
  | .pushBc => [0xC5]
  | .addAN8 n8 => [0xC6, n8]
  | .rst00 => [0xC7]
  | .retZ => [0xC8]
  | .ret => [0xC9]
  | .jpZA16 a16 => [0xCA, loByte a16, hiByte a16]
  | .prefixCb op2 => [0xCB, op2]
  | .callZA16 a16 => [0xCC, loByte a16, hiByte a16]
  | .callA16 a16 => [0xCD, loByte a16, hiByte a16]
  | .adcAN8 n8 => [0xCE, n8]
  | .rst08 => [0xCF]
  | .retNc => [0xD0]
  | .popDe => [0xD1]
  | .jpNcA16 a16 => [0xD2, loByte a16, hiByte a16]
  | .illegal op => [op]
  | .callNcA16 a16 => [0xD4, loByte a16, hiByte a16]
  | .pushDe => [0xD5]
  | .subAN8 n8 => [0xD6, n8]
  | .rst10 => [0xD7]
  | .retC => [0xD8]
  | .reti => [0xD9]
  | .jpCA16 a16 => [0xDA, loByte a16, hiByte a16]
  | .callCA16 a16 => [0xDC, loByte a16, hiByte a16]
  | .sbcAN8 n8 => [0xDE, n8]
  | .rst18 => [0xDF]
  | .ldhAtA8A a8 => [0xE0, a8]
  | .popHl => [0xE1]
  | .ldAtCA => [0xE2]
  | .pushHl => [0xE5]
  | .andAN8 n8 => [0xE6, n8]
  | .rst20 => [0xE7]
  | .addSpE8 e8 => [0xE8, e8]
  | .jpHl => [0xE9]
  | .ldAtA16A a16 => [0xEA, loByte a16, hiByte a16]
  | .xorAN8 n8 => [0xEE, n8]
  | .rst28 => [0xEF]
  | .ldhAAtA8 a8 => [0xF0, a8]
  | .popAf => [0xF1]
  | .ldAAtC => [0xF2]
  | .di => [0xF3]
  | .pushAf => [0xF5]
  | .orAN8 n8 => [0xF6, n8]
  | .rst30 => [0xF7]
  | .ldHlSpE8 e8 => [0xF8, e8]
  | .ldSpHl => [0xF9]
  | .ldAAtA16 a16 => [0xFA, loByte a16, hiByte a16]
  | .ei => [0xFB]
  | .cpAN8 n8 => [0xFE, n8]
  | .rst38 => [0xFF]
  | .rlcB => [0xCB, 0x00]
  | .rlcC => [0xCB, 0x01]
  | .rlcD => [0xCB, 0x02]
  | .rlcE => [0xCB, 0x03]
  | .rlcH => [0xCB, 0x04]
  | .rlcL => [0xCB, 0x05]
  | .rlcAtHl => [0xCB, 0x06]
  | .rlcA => [0xCB, 0x07]
  | .rrcB => [0xCB, 0x08]
  | .rrcC => [0xCB, 0x09]
  | .rrcD => [0xCB, 0x0A]
  | .rrcE => [0xCB, 0x0B]
  | .rrcH => [0xCB, 0x0C]
  | .rrcL => [0xCB, 0x0D]
  | .rrcAtHl => [0xCB, 0x0E]
  | .rrcA => [0xCB, 0x0F]
  | .rlB => [0xCB, 0x10]
  | .rlC => [0xCB, 0x11]
  | .rlD => [0xCB, 0x12]
  | .rlE => [0xCB, 0x13]
  | .rlH => [0xCB, 0x14]
  | .rlL => [0xCB, 0x15]
  | .rlAtHl => [0xCB, 0x16]
  | .rlA => [0xCB, 0x17]
  | .rrB => [0xCB, 0x18]
  | .rrC => [0xCB, 0x19]
  | .rrD => [0xCB, 0x1A]
  | .rrE => [0xCB, 0x1B]
  | .rrH => [0xCB, 0x1C]
  | .rrL => [0xCB, 0x1D]
  | .rrAtHl => [0xCB, 0x1E]
  | .rrA => [0xCB, 0x1F]
  | .slaB => [0xCB, 0x20]
  | .slaC => [0xCB, 0x21]
  | .slaD => [0xCB, 0x22]
  | .slaE => [0xCB, 0x23]
  | .slaH => [0xCB, 0x24]
  | .slaL => [0xCB, 0x25]
  | .slaAtHl => [0xCB, 0x26]
  | .slaA => [0xCB, 0x27]
  | .sraB => [0xCB, 0x28]
  | .sraC => [0xCB, 0x29]
  | .sraD => [0xCB, 0x2A]
  | .sraE => [0xCB, 0x2B]
  | .sraH => [0xCB, 0x2C]
  | .sraL => [0xCB, 0x2D]
  | .sraAtHl => [0xCB, 0x2E]
  | .sraA => [0xCB, 0x2F]
  | .swapB => [0xCB, 0x30]
  | .swapC => [0xCB, 0x31]
  | .swapD => [0xCB, 0x32]
  | .swapE => [0xCB, 0x33]
  | .swapH => [0xCB, 0x34]
  | .swapL => [0xCB, 0x35]
  | .swapAtHl => [0xCB, 0x36]
  | .swapA => [0xCB, 0x37]
  | .srlB => [0xCB, 0x38]
  | .srlC => [0xCB, 0x39]
  | .srlD => [0xCB, 0x3A]
  | .srlE => [0xCB, 0x3B]
  | .srlH => [0xCB, 0x3C]
  | .srlL => [0xCB, 0x3D]
  | .srlAtHl => [0xCB, 0x3E]
  | .srlA => [0xCB, 0x3F]
  | .bit0B => [0xCB, 0x40]
  | .bit0C => [0xCB, 0x41]
  | .bit0D => [0xCB, 0x42]
  | .bit0E => [0xCB, 0x43]
  | .bit0H => [0xCB, 0x44]
  | .bit0L => [0xCB, 0x45]
  | .bit0AtHl => [0xCB, 0x46]
  | .bit0A => [0xCB, 0x47]
  | .bit1B => [0xCB, 0x48]
  | .bit1C => [0xCB, 0x49]
  | .bit1D => [0xCB, 0x4A]
  | .bit1E => [0xCB, 0x4B]
  | .bit1H => [0xCB, 0x4C]
  | .bit1L => [0xCB, 0x4D]
  | .bit1AtHl => [0xCB, 0x4E]
  | .bit1A => [0xCB, 0x4F]
  | .bit2B => [0xCB, 0x50]
  | .bit2C => [0xCB, 0x51]
  | .bit2D => [0xCB, 0x52]
  | .bit2E => [0xCB, 0x53]
  | .bit2H => [0xCB, 0x54]
  | .bit2L => [0xCB, 0x55]
  | .bit2AtHl => [0xCB, 0x56]
  | .bit2A => [0xCB, 0x57]
  | .bit3B => [0xCB, 0x58]
  | .bit3C => [0xCB, 0x59]
  | .bit3D => [0xCB, 0x5A]
  | .bit3E => [0xCB, 0x5B]
  | .bit3H => [0xCB, 0x5C]
  | .bit3L => [0xCB, 0x5D]
  | .bit3AtHl => [0xCB, 0x5E]
  | .bit3A => [0xCB, 0x5F]
  | .bit4B => [0xCB, 0x60]
  | .bit4C => [0xCB, 0x61]
  | .bit4D => [0xCB, 0x62]
  | .bit4E => [0xCB, 0x63]
  | .bit4H => [0xCB, 0x64]
  | .bit4L => [0xCB, 0x65]
  | .bit4AtHl => [0xCB, 0x66]
  | .bit4A => [0xCB, 0x67]
  | .bit5B => [0xCB, 0x68]
  | .bit5C => [0xCB, 0x69]
  | .bit5D => [0xCB, 0x6A]
  | .bit5E => [0xCB, 0x6B]
  | .bit5H => [0xCB, 0x6C]
  | .bit5L => [0xCB, 0x6D]
  | .bit5AtHl => [0xCB, 0x6E]
  | .bit5A => [0xCB, 0x6F]
  | .bit6B => [0xCB, 0x70]
  | .bit6C => [0xCB, 0x71]
  | .bit6D => [0xCB, 0x72]
  | .bit6E => [0xCB, 0x73]
  | .bit6H => [0xCB, 0x74]
  | .bit6L => [0xCB, 0x75]
  | .bit6AtHl => [0xCB, 0x76]
  | .bit6A => [0xCB, 0x77]
  | .bit7B => [0xCB, 0x78]
  | .bit7C => [0xCB, 0x79]
  | .bit7D => [0xCB, 0x7A]
  | .bit7E => [0xCB, 0x7B]
  | .bit7H => [0xCB, 0x7C]
  | .bit7L => [0xCB, 0x7D]
  | .bit7AtHl => [0xCB, 0x7E]
  | .bit7A => [0xCB, 0x7F]
  | .res0B => [0xCB, 0x80]
  | .res0C => [0xCB, 0x81]
  | .res0D => [0xCB, 0x82]
  | .res0E => [0xCB, 0x83]
  | .res0H => [0xCB, 0x84]
  | .res0L => [0xCB, 0x85]
  | .res0AtHl => [0xCB, 0x86]
  | .res0A => [0xCB, 0x87]
  | .res1B => [0xCB, 0x88]
  | .res1C => [0xCB, 0x89]
  | .res1D => [0xCB, 0x8A]
  | .res1E => [0xCB, 0x8B]
  | .res1H => [0xCB, 0x8C]
  | .res1L => [0xCB, 0x8D]
  | .res1AtHl => [0xCB, 0x8E]
  | .res1A => [0xCB, 0x8F]
  | .res2B => [0xCB, 0x90]
  | .res2C => [0xCB, 0x91]
  | .res2D => [0xCB, 0x92]
  | .res2E => [0xCB, 0x93]
  | .res2H => [0xCB, 0x94]
  | .res2L => [0xCB, 0x95]
  | .res2AtHl => [0xCB, 0x96]
  | .res2A => [0xCB, 0x97]
  | .res3B => [0xCB, 0x98]
  | .res3C => [0xCB, 0x99]
  | .res3D => [0xCB, 0x9A]
  | .res3E => [0xCB, 0x9B]
  | .res3H => [0xCB, 0x9C]
  | .res3L => [0xCB, 0x9D]
  | .res3AtHl => [0xCB, 0x9E]
  | .res3A => [0xCB, 0x9F]
  | .res4B => [0xCB, 0xA0]
  | .res4C => [0xCB, 0xA1]
  | .res4D => [0xCB, 0xA2]
  | .res4E => [0xCB, 0xA3]
  | .res4H => [0xCB, 0xA4]
  | .res4L => [0xCB, 0xA5]
  | .res4AtHl => [0xCB, 0xA6]
  | .res4A => [0xCB, 0xA7]
  | .res5B => [0xCB, 0xA8]
  | .res5C => [0xCB, 0xA9]
  | .res5D => [0xCB, 0xAA]
  | .res5E => [0xCB, 0xAB]
  | .res5H => [0xCB, 0xAC]
  | .res5L => [0xCB, 0xAD]
  | .res5AtHl => [0xCB, 0xAE]
  | .res5A => [0xCB, 0xAF]
  | .res6B => [0xCB, 0xB0]
  | .res6C => [0xCB, 0xB1]
  | .res6D => [0xCB, 0xB2]
  | .res6E => [0xCB, 0xB3]
  | .res6H => [0xCB, 0xB4]
  | .res6L => [0xCB, 0xB5]
  | .res6AtHl => [0xCB, 0xB6]
  | .res6A => [0xCB, 0xB7]
  | .res7B => [0xCB, 0xB8]
  | .res7C => [0xCB, 0xB9]
  | .res7D => [0xCB, 0xBA]
  | .res7E => [0xCB, 0xBB]
  | .res7H => [0xCB, 0xBC]
  | .res7L => [0xCB, 0xBD]
  | .res7AtHl => [0xCB, 0xBE]
  | .res7A => [0xCB, 0xBF]
  | .set0B => [0xCB, 0xC0]
  | .set0C => [0xCB, 0xC1]
  | .set0D => [0xCB, 0xC2]
  | .set0E => [0xCB, 0xC3]
  | .set0H => [0xCB, 0xC4]
  | .set0L => [0xCB, 0xC5]
  | .set0AtHl => [0xCB, 0xC6]
  | .set0A => [0xCB, 0xC7]
  | .set1B => [0xCB, 0xC8]
  | .set1C => [0xCB, 0xC9]
  | .set1D => [0xCB, 0xCA]
  | .set1E => [0xCB, 0xCB]
  | .set1H => [0xCB, 0xCC]
  | .set1L => [0xCB, 0xCD]
  | .set1AtHl => [0xCB, 0xCE]
  | .set1A => [0xCB, 0xCF]
  | .set2B => [0xCB, 0xD0]
  | .set2C => [0xCB, 0xD1]
  | .set2D => [0xCB, 0xD2]
  | .set2E => [0xCB, 0xD3]
  | .set2H => [0xCB, 0xD4]
  | .set2L => [0xCB, 0xD5]
  | .set2AtHl => [0xCB, 0xD6]
  | .set2A => [0xCB, 0xD7]
  | .set3B => [0xCB, 0xD8]
  | .set3C => [0xCB, 0xD9]
  | .set3D => [0xCB, 0xDA]
  | .set3E => [0xCB, 0xDB]
  | .set3H => [0xCB, 0xDC]
  | .set3L => [0xCB, 0xDD]
  | .set3AtHl => [0xCB, 0xDE]
  | .set3A => [0xCB, 0xDF]
  | .set4B => [0xCB, 0xE0]
  | .set4C => [0xCB, 0xE1]
  | .set4D => [0xCB, 0xE2]
  | .set4E => [0xCB, 0xE3]
  | .set4H => [0xCB, 0xE4]
  | .set4L => [0xCB, 0xE5]
  | .set4AtHl => [0xCB, 0xE6]
  | .set4A => [0xCB, 0xE7]
  | .set5B => [0xCB, 0xE8]
  | .set5C => [0xCB, 0xE9]
  | .set5D => [0xCB, 0xEA]
  | .set5E => [0xCB, 0xEB]
  | .set5H => [0xCB, 0xEC]
  | .set5L => [0xCB, 0xED]
  | .set5AtHl => [0xCB, 0xEE]
  | .set5A => [0xCB, 0xEF]
  | .set6B => [0xCB, 0xF0]
  | .set6C => [0xCB, 0xF1]
  | .set6D => [0xCB, 0xF2]
  | .set6E => [0xCB, 0xF3]
  | .set6H => [0xCB, 0xF4]
  | .set6L => [0xCB, 0xF5]
  | .set6AtHl => [0xCB, 0xF6]
  | .set6A => [0xCB, 0xF7]
  | .set7B => [0xCB, 0xF8]
  | .set7C => [0xCB, 0xF9]
  | .set7D => [0xCB, 0xFA]
  | .set7E => [0xCB, 0xFB]
  | .set7H => [0xCB, 0xFC]
  | .set7L => [0xCB, 0xFD]
  | .set7AtHl => [0xCB, 0xFE]
  | .set7A => [0xCB, 0xFF]

/-- The length of an instruction, told by its first byte alone (R121). -/
def instrLength (b0 : Byte) : Nat := (encode (decodePrimary b0 0 0)).length

/-- Why a byte list holds no whole instruction. -/
inductive DecodeError where
  /-- There is no first byte. -/
  | noBytes
  /-- Fewer bytes follow the first than its length asks for. -/
  | tooShort (op : Byte) (length : Nat)
deriving DecidableEq, Repr

/-- The instruction at the front of a byte list, and the bytes after it. -/
def decode (bytes : List Byte) : Except DecodeError (Instr × List Byte) :=
  match bytes with
  | [] => .error .noBytes
  | b0 :: rest =>
    if rest.length + 1 < instrLength b0 then .error (.tooShort b0 (instrLength b0))
    else .ok (decodeBytes b0 (rest.getD 0 0) (rest.getD 1 0), bytes.drop (instrLength b0))

/-- The three bytes of a row of spec/opcode_table.json whose bits are `w` (R133): an 8-bit row is its opcode byte; a 16-bit row is `0xCB << 8 | op2`, the two bytes read with 0xCB first; any other number of 16 or 24 bits has its first byte lowest. The bytes past the row's bits are 0. -/
def tableBytes (nbits w : Nat) : List Byte :=
  if nbits = 16 ∧ w / 256 = 0xCB then [0xCB, BitVec.ofNat 8 w, 0]
  else [BitVec.ofNat 8 w, BitVec.ofNat 8 (w / 256), BitVec.ofNat 8 (w / 65536)]

/-- The instruction the decoder reads from a row's bits (R133); none where the number of bits is no row's. -/
def decodeTableWord (nbits w : Nat) : Option Instr :=
  if nbits = 8 ∨ nbits = 16 ∨ nbits = 24 then
    match decode (tableBytes nbits (w % 2 ^ nbits)) with
    | .ok (i, _) => some i
    | .error _ => none
  else none

end Sys2Proof
end

