-- ==== Sys2Proof/Config.lean ====
section
/-! DEFINITION. What is fixed for a session (00_scope.md R3 to R5, 10_state.md R38): the profile, the sentinel bytes, the size of external RAM, and the fixed sizes of the memory arrays. The image ROM stands in the state's cartridge. -/

namespace Sys2Proof

/-- Which mnemonics execute (R3, D2): `core` is the source's list, `full` is every defined mnemonic. -/
inductive Profile where
  | core
  | full
deriving DecidableEq, Repr

/-- The parameters of R5 that are not fixed by the source. The state carries one value of this type, and no step changes it. -/
structure Config where
  /-- `PROFILE`: the executed mnemonic set (R3). -/
  profile : Profile
  /-- `UNUSABLE_READ`: what a read of 0xFEA0 to 0xFEFF returns (R67, D8). -/
  unusableRead : Byte
  /-- `CART_RAM_DISABLED_READ`: what a cartridge-RAM read returns while RAM is disabled or absent (R79, R86, D9). -/
  cartRamDisabledRead : Byte
  /-- `ROM_OOB_READ`: what a ROM read past the end of the image returns (R87, D10). -/
  romOobRead : Byte
  /-- `EXT_RAM_SIZE`: the number of external RAM bytes of the bank-switching variant (R86, D19). -/
  extRamSize : Nat
  /-- `MEM_INIT`: what every byte of the memory arrays holds after `construct()` (R41, D23). -/
  memInit : Byte
deriving DecidableEq, Repr

/-- The default of every parameter of R5 (OPEN-1 to OPEN-4 of 92_eei_decisions.md). -/
def Config.standard : Config where
  profile := .core
  unusableRead := 0xFF
  cartRamDisabledRead := 0xFF
  romOobRead := 0xFF
  extRamSize := 32768
  memInit := 0x00

/-- `VRAM_SIZE` (R5). -/
def Config.vramSize : Nat := 8192

/-- `WRAM_BANK_SIZE` (R5). -/
def Config.wramBankSize : Nat := 4096

/-- `OAM_SIZE` (R5). -/
def Config.oamSize : Nat := 160

/-- `IO_SIZE` (R5). -/
def Config.ioSize : Nat := 128

/-- `HRAM_SIZE` (R5). -/
def Config.hramSize : Nat := 128

/-- What a byte that a memory list does not name reads as. DESIGN CHOICE (log entry 3): it is only the way a memory is written down, since every memory names each byte that is not this one; `MEM_INIT` is a parameter of its own. -/
def Config.unlisted : Byte := 0x00

end Sys2Proof
end

