-- ==== Sys2Proof/Machine/Memory.lean ====
section
/-! DEFINITION. A byte array as a canonical list of cells: reading one byte, writing one byte, and the canonical form. -/

namespace Sys2Proof.Machine

/-- A byte array as a list of (index, byte) cells in canonical form: indexes strictly rising, no byte equal to `Config.unlisted`. -/
abbrev Memory := List Host.Cell

/-- The byte at an index: the listed one, else `Config.unlisted`. -/
def Memory.read (m : Memory) (i : Nat) : Byte :=
  match m with
  | [] => Config.unlisted
  | (k, v) :: rest => if k = i then v else Memory.read rest i

/-- Store a byte at an index, keeping the canonical form: storing `Config.unlisted` removes the cell. -/
def Memory.write (m : Memory) (i : Nat) (v : Byte) : Memory :=
  match m with
  | [] => if v = Config.unlisted then [] else [(i, v)]
  | (k, w) :: rest =>
    if k < i then (k, w) :: Memory.write rest i v
    else if k = i then (if v = Config.unlisted then rest else (i, v) :: rest)
    else (if v = Config.unlisted then (k, w) :: rest else (i, v) :: (k, w) :: rest)

/-- Canonical form from an index on: indexes at least `lo` and strictly rising, no cell holding `Config.unlisted`. -/
def Memory.wfFrom (lo : Nat) (m : Memory) : Bool :=
  match m with
  | [] => true
  | (k, v) :: rest => decide (lo ≤ k) && decide (v ≠ Config.unlisted) && Memory.wfFrom (k + 1) rest

/-- The canonical form of a byte array. -/
def Memory.wf (m : Memory) : Bool := Memory.wfFrom 0 m

/-- Every listed index is below the array's size. -/
def Memory.within (size : Nat) (m : Memory) : Bool := m.all fun cell => decide (cell.1 < size)

/-- The canonical list of the bytes of a list, the first at index `i`. -/
def Memory.ofBytes (i : Nat) (bytes : List Byte) : Memory :=
  match bytes with
  | [] => []
  | v :: rest => if v = Config.unlisted then Memory.ofBytes (i + 1) rest else (i, v) :: Memory.ofBytes (i + 1) rest

/-- An array of `size` bytes that all hold `v` (R41). The case apart, in which no byte has to be listed, keeps the construction short. -/
def Memory.filled (size : Nat) (v : Byte) : Memory :=
  if v = Config.unlisted then [] else Memory.ofBytes 0 (List.replicate size v)

end Sys2Proof.Machine
end

