-- ==== Sys2Proof/Machine/State.lean ====
section
/-! DEFINITION. The machine state as plain data (10_state.md R20 to R35), the faults and refusals, and the state after `construct()` (70_reset_and_hazards.md R340). -/

namespace Sys2Proof.Machine

/-- The cartridge image: `ROM_LEN` bytes (R87). An offset below `len` that `cells` does not list holds `Config.unlisted`. -/
structure Rom where
  cells : Memory
  len : Nat
deriving DecidableEq, Repr

/-- The banking mode bit (R35, R83): 0 is ROM banking, 1 is RAM banking. -/
inductive BankingMode where
  | romBanking
  | ramBanking
deriving DecidableEq, Repr

/-- The registers and external RAM of the bank-switching controller (R35). -/
structure Mbc where
  eram : Memory
  ramEnabled : Bool
  romBankLow : BitVec 5
  bank2 : BitVec 2
  bankingMode : BankingMode
deriving DecidableEq, Repr

/-- The cartridge (R35): absent before a load, then one of two controller kinds with the image. -/
inductive Cart where
  | absent
  | noBanking (rom : Rom)
  | bankSwitching (rom : Rom) (mbc : Mbc)
deriving DecidableEq, Repr

/-- What a fault records (R31): the address of the instruction's first byte, its opcode bytes, and whether it was prefixed. -/
structure FaultInfo where
  pc : Word
  bytes : List Byte
  prefixed : Bool
deriving DecidableEq, Repr

/-- The two faults a step can raise (R300, codes 1 and 2). The step that raises one answers a next state with the fault recorded in `State.fault` (R304); every later step of that state stops with the recorded fault (R305). -/
inductive Fault where
  /-- Raised by `step` of a state whose `fault` field records it (R305), after an opcode with no descriptor was fetched (R301). Safe: the machine stops, as the spec says it does. -/
  | illegalOpcode (info : FaultInfo)
  /-- Raised by `step` of a state whose `fault` field records it (R305), after an opcode outside the profile was fetched (R302). Safe: the machine stops, as the spec says it does. -/
  | unsupportedOpcode (info : FaultInfo)
deriving DecidableEq, Repr

/-- Why a step has no move. -/
inductive Refusal where
  /-- An instruction without a meaning, rejected by name in `exec`'s arm. No arm uses it. Safe. -/
  | notModelled (mnemonic : String)
  /-- Raised by `step` of a core without a cartridge: a step of an unloaded core has no move (R315). Safe: nothing is claimed of such a step. -/
  | noCartridge
deriving DecidableEq, Repr

/-- Why `loadCartridge` refuses an image (R303, code 3). It is a result of the load, never recorded in `State.fault`. -/
inductive CartridgeLoadError where
  /-- Byte 0x147 names no known controller. -/
  | unknownController (kind : Byte)
  /-- The image is too short. -/
  | truncated (length : Nat)
deriving DecidableEq, Repr

/-- Whether the core runs (R32). -/
inductive RunState where
  | running
  | stopped
  | halted
deriving DecidableEq, Repr

/-- The machine state (R20). -/
structure State where
  /-- Accumulator (R21). -/
  a : Byte
  /-- Flags: Z N H C in bits 7 to 4, bits 3 to 0 zero (R22). -/
  f : Byte
  /-- General register (R21). -/
  b : Byte
  /-- General register (R21). -/
  c : Byte
  /-- General register (R21). -/
  d : Byte
  /-- General register (R21). -/
  e : Byte
  /-- General register (R21). -/
  h : Byte
  /-- General register (R21). -/
  l : Byte
  /-- Stack pointer (R28). -/
  sp : Word
  /-- Program counter (R29). -/
  pc : Word
  /-- Interrupt master enable (R30). -/
  ime : Bool
  /-- The recorded fault (R31). -/
  fault : Option Fault
  /-- Running, stopped or halted (R32). -/
  run : RunState
  /-- Descriptor of the last executed instruction, diagnostic only (R33). -/
  lastDecoded : Option Descriptor
  /-- Video RAM, 8192 bytes (R34). -/
  vram : Memory
  /-- Work RAM bank 0, 4096 bytes (R34). -/
  wram0 : Memory
  /-- Work RAM bank 1, 4096 bytes (R34). -/
  wram1 : Memory
  /-- Sprite table, 160 bytes (R34). -/
  oam : Memory
  /-- I/O block, 128 bytes (R34). -/
  io : Memory
  /-- High RAM, 128 bytes (R34). -/
  hram : Memory
  /-- The cartridge and its controller (R35). -/
  cart : Cart
  /-- The session's parameters (R38); no step changes them. -/
  cfg : Config
deriving DecidableEq, Repr

/-- The state after `construct()` with given parameters (R340): the registers of R40, every RAM byte `MEM_INIT` (R41), the fields of R43, no cartridge. -/
def State.construct (cfg : Config) : State where
  a := 0x01
  f := 0xB0
  b := 0x00
  c := 0x13
  d := 0x00
  e := 0xD8
  h := 0x01
  l := 0x4D
  sp := 0xFFFE
  pc := 0x0100
  ime := false
  fault := none
  run := .running
  lastDecoded := none
  vram := Memory.filled Config.vramSize cfg.memInit
  wram0 := Memory.filled Config.wramBankSize cfg.memInit
  wram1 := Memory.filled Config.wramBankSize cfg.memInit
  oam := Memory.filled Config.oamSize cfg.memInit
  io := Memory.filled Config.ioSize cfg.memInit
  hram := Memory.filled Config.hramSize cfg.memInit
  cart := .absent
  cfg := cfg

/-- The machine right after reset: `construct()` at the parameters' defaults (R5, R340). -/
def State.reset : State := State.construct Config.standard

end Sys2Proof.Machine
end

