-- ==== Sys2Proof/Machine/Cartridge.lean ====
section
/-! DEFINITION. The cartridge controller (20_memory.md R78 to R87) and `loadCartridge` (70_reset_and_hazards.md R341). -/

namespace Sys2Proof.Machine

/-- The image made of a byte list (R341). -/
def Rom.ofBytes (bytes : List Byte) : Rom := ⟨Memory.ofBytes 0 bytes, bytes.length⟩

/-- `romByte(o)` (R87): the image's byte, or ROM_OOB_READ past its end. -/
def Rom.byte (cfg : Config) (rom : Rom) (o : Nat) : Byte :=
  if o < rom.len then rom.cells.read o else cfg.romOobRead

/-- The value of the combined bank fields before the zero guard (R84). -/
def Mbc.selectedRomBank (m : Mbc) : Nat :=
  match m.bankingMode with
  | .romBanking => m.bank2.toNat * 32 + m.romBankLow.toNat
  | .ramBanking => m.romBankLow.toNat

/-- `activeRomBank` (R84): the selected bank, with 0 forced to 1. -/
def Mbc.activeRomBank (m : Mbc) : Nat :=
  if m.selectedRomBank = 0 then 1 else m.selectedRomBank

/-- `activeRamBank` (R84): `bank2` in RAM-banking mode, else 0. -/
def Mbc.activeRamBank (m : Mbc) : Nat :=
  match m.bankingMode with
  | .romBanking => 0
  | .ramBanking => m.bank2.toNat

/-- The image offset that a ROM address reads on the bank-switching controller (R85): bank 0 up to 0x3FFF, the active bank above. -/
def Mbc.romOffset (m : Mbc) (a : Word) : Nat :=
  if a.toNat ≤ 0x3FFF then a.toNat else m.activeRomBank * 0x4000 + a.toNat % 0x4000

/-- The external RAM index of an address (R86). -/
def Mbc.ramIndex (cfg : Config) (m : Mbc) (a : Word) : Nat :=
  (m.activeRamBank * 0x2000 + a.toNat % 0x2000) % cfg.extRamSize

/-- `readROM(a)` (R79, R85). DESIGN CHOICE (log entry 4): with no cartridge the image has no byte, so the read gives ROM_OOB_READ; no step of an unloaded core reads. -/
def Cart.readRom (cfg : Config) (cart : Cart) (a : Word) : Byte :=
  match cart with
  | .absent => cfg.romOobRead
  | .noBanking rom => rom.byte cfg a.toNat
  | .bankSwitching rom m => rom.byte cfg (m.romOffset a)

/-- `readRAM(a)` (R79, R86): the sentinel while RAM is disabled or absent. -/
def Cart.readRam (cfg : Config) (cart : Cart) (a : Word) : Byte :=
  match cart with
  | .absent => cfg.cartRamDisabledRead
  | .noBanking _ => cfg.cartRamDisabledRead
  | .bankSwitching _ m => if m.ramEnabled then m.eram.read (m.ramIndex cfg a) else cfg.cartRamDisabledRead

/-- The register write of the bank-switching controller (R80 to R83): the address range picks the register. -/
def Mbc.writeRegister (m : Mbc) (a : Word) (v : Byte) : Mbc :=
  if a.toNat ≤ 0x1FFF then { m with ramEnabled := decide (v.extractLsb' 0 4 = 0xA#4) }
  else if a.toNat ≤ 0x3FFF then { m with romBankLow := v.extractLsb' 0 5 }
  else if a.toNat ≤ 0x5FFF then { m with bank2 := v.extractLsb' 0 2 }
  else { m with bankingMode := if v.getLsbD 0 then .ramBanking else .romBanking }

/-- `writeROM(a, v)` (R79 to R83): selects banks, never changes the image. -/
def Cart.writeRom (cart : Cart) (a : Word) (v : Byte) : Cart :=
  match cart with
  | .absent => .absent
  | .noBanking rom => .noBanking rom
  | .bankSwitching rom m => .bankSwitching rom (m.writeRegister a v)

/-- `writeRAM(a, v)` (R79, R86): ignored while RAM is disabled or absent. -/
def Cart.writeRam (cfg : Config) (cart : Cart) (a : Word) (v : Byte) : Cart :=
  match cart with
  | .absent => .absent
  | .noBanking rom => .noBanking rom
  | .bankSwitching rom m =>
    if m.ramEnabled then .bankSwitching rom { m with eram := m.eram.write (m.ramIndex cfg a) v }
    else .bankSwitching rom m

/-- The controller registers and external RAM right after a load (R42): every byte of external RAM is 0x00, so none is listed. -/
def Mbc.initial : Mbc := ⟨[], false, 0, 0, .romBanking⟩

/-- The cartridge that a loaded image gives, or why the image is refused, in the order of the checks (R303, R306, R341). -/
def Cart.ofBytes (bytes : List Byte) : Except CartridgeLoadError Cart :=
  if bytes.length ≤ 0x147 then .error (.truncated bytes.length)
  else
    let kind := bytes.getD 0x147 0
    if kind ≠ 0x00 ∧ kind ≠ 0x01 ∧ kind ≠ 0x02 ∧ kind ≠ 0x03 then .error (.unknownController kind)
    else if bytes.length < 0x8000 then .error (.truncated bytes.length)
    else if kind = 0x00 then .ok (.noBanking (Rom.ofBytes bytes))
    else .ok (.bankSwitching (Rom.ofBytes bytes) Mbc.initial)

/-- What `loadCartridge` answers (R315, R341): the loaded state, an error that changes nothing, or no move where a cartridge is already there (log entry 13). -/
inductive LoadResult where
  | loaded (s : State)
  | failed (e : CartridgeLoadError)
  | noMove
deriving DecidableEq, Repr

/-- `loadCartridge(bytes)` (R341): only the cartridge changes. DESIGN CHOICE (log entry 13): a call after a failed one has a move, by R341's precondition alone; R315 and D28 allow one call for each core. -/
def loadCartridge (bytes : List Byte) (s : State) : LoadResult :=
  if s.cart = .absent then
    match Cart.ofBytes bytes with
    | .ok cart => .loaded { s with cart := cart }
    | .error e => .failed e
  else .noMove

end Sys2Proof.Machine
end

