-- ==== Sys2Proof/Machine/Bus.lean ====
section
/-! DEFINITION. The MemoryBus (20_memory.md R60 to R77): where an address leads, the byte read and the byte write with its side effects, the DMA copy, and the 16-bit accesses. -/

namespace Sys2Proof.Machine

/-- The six byte arrays of the memory image (R34). -/
inductive Store where
  | vram
  | wram0
  | wram1
  | oam
  | io
  | hram
deriving DecidableEq, Repr

/-- The number of bytes of an array (R34). -/
def Store.size (st : Store) : Nat :=
  match st with
  | .vram => Config.vramSize
  | .wram0 => Config.wramBankSize
  | .wram1 => Config.wramBankSize
  | .oam => Config.oamSize
  | .io => Config.ioSize
  | .hram => Config.hramSize

/-- Where a bus address leads (R61): the cartridge's ROM window, a byte of an array, the cartridge's RAM window, or the unusable region. -/
inductive Region where
  | rom
  | array (st : Store) (i : Nat)
  | extRam
  | unusable
deriving DecidableEq, Repr

/-- Echo folding (R65): an address in 0xE000 to 0xFDFF acts as the address 0x2000 below it. -/
def unecho (a : Word) : Word :=
  if 0xE000 ≤ a.toNat ∧ a.toNat ≤ 0xFDFF then a - 0x2000 else a

/-- The region table (R61, R62) at an address that is not an echo. -/
def regionOf (n : Nat) : Region :=
  if n ≤ 0x7FFF then .rom
  else if n ≤ 0x9FFF then .array .vram (n % 0x2000)
  else if n ≤ 0xBFFF then .extRam
  else if n ≤ 0xCFFF then .array .wram0 (n % 0x1000)
  else if n ≤ 0xDFFF then .array .wram1 (n % 0x1000)
  else if n ≤ 0xFE9F then .array .oam (n - 0xFE00)
  else if n ≤ 0xFEFF then .unusable
  else if n ≤ 0xFF7F then .array .io (n - 0xFF00)
  else .array .hram (n % 0x80)

/-- Where a bus address leads, echo included. -/
def locate (a : Word) : Region := regionOf (unecho a).toNat

/-- The array of a state. -/
def State.array (s : State) (st : Store) : Memory :=
  match st with
  | .vram => s.vram
  | .wram0 => s.wram0
  | .wram1 => s.wram1
  | .oam => s.oam
  | .io => s.io
  | .hram => s.hram

/-- Replace one array of a state. -/
def State.setArray (s : State) (st : Store) (m : Memory) : State :=
  match st with
  | .vram => { s with vram := m }
  | .wram0 => { s with wram0 := m }
  | .wram1 => { s with wram1 := m }
  | .oam => { s with oam := m }
  | .io => { s with io := m }
  | .hram => { s with hram := m }

/-- Store a byte in an array, with no side effect. -/
def State.poke (s : State) (st : Store) (i : Nat) (v : Byte) : State :=
  s.setArray st ((s.array st).write i v)

/-- `read8(a)` (R61, R68): no read has a side effect. -/
def State.read8 (s : State) (a : Word) : Byte :=
  match locate a with
  | .rom => s.cart.readRom s.cfg a
  | .array st i => (s.array st).read i
  | .extRam => s.cart.readRam s.cfg a
  | .unusable => s.cfg.unusableRead

/-- The source address of byte `k` of a DMA copy from page `v` (R75). -/
def dmaSource (v : Byte) (k : Nat) : Word := wordOf 0 v + BitVec.ofNat 16 k

/-- One byte of the DMA copy: `oam[k] <- read8((v << 8) + k)` (R75). -/
def dmaByte (v : Byte) (s : State) (k : Nat) : State :=
  s.poke .oam k (s.read8 (dmaSource v k))

/-- `dmaCopy(v)` (R75): 160 bytes in ascending order, through the bus. -/
def dmaCopy (v : Byte) (s : State) : State :=
  (List.range Config.oamSize).foldl (dmaByte v) s

/-- `ioWrite(i, v)` (R69 to R75). -/
def ioWrite (i : Nat) (v : Byte) (s : State) : State :=
  if i = 0x0F then s.poke .io 0x0F (v ||| 0xE0)
  else if i = 0x04 then s.poke .io 0x04 0x00
  else if i = 0x44 then s.poke .io 0x44 0x00
  else if i = 0x46 then dmaCopy v (s.poke .io 0x46 v)
  else s.poke .io i v

/-- The write of a byte of an array: I/O goes through `ioWrite`, every other array is plain storage (R62). -/
def arrayWrite (st : Store) (i : Nat) (v : Byte) (s : State) : State :=
  match st with
  | .io => ioWrite i v s
  | .vram => s.poke .vram i v
  | .wram0 => s.poke .wram0 i v
  | .wram1 => s.poke .wram1 i v
  | .oam => s.poke .oam i v
  | .hram => s.poke .hram i v

/-- `write8(a, v)` (R62). -/
def State.write8 (s : State) (a : Word) (v : Byte) : State :=
  match locate a with
  | .rom => { s with cart := s.cart.writeRom a v }
  | .array st i => arrayWrite st i v s
  | .extRam => { s with cart := s.cart.writeRam s.cfg a v }
  | .unusable => s

/-- `read16(a)` (R74): the low byte at `a`, the high byte at `a + 1` with wrap. -/
def State.read16 (s : State) (a : Word) : Word := wordOf (s.read8 a) (s.read8 (a + 1))

/-- `write16(a, v)` (R74): the low byte at `a` first, then the high byte at `a + 1` with wrap. -/
def State.write16 (s : State) (a : Word) (v : Word) : State :=
  (s.write8 a (loByte v)).write8 (a + 1) (hiByte v)

end Sys2Proof.Machine
end

