-- ==== Sys2Proof/Machine/Descriptors.lean ====
section
/-! DEFINITION. The instruction table (30_encoding.md R131 to R136): each row's descriptor, its length and operand records, lookup, and which descriptors a profile implements. -/

namespace Sys2Proof

/-- The number of bytes of a format (R120). -/
def Format.length (f : Format) : Nat :=
  match f with
  | .op => 1
  | .opN8 => 2
  | .opE8 => 2
  | .opA8 => 2
  | .opN16 => 3
  | .opA16 => 3
  | .opStop => 2
  | .cb => 2

/-- The byte length of the described instruction (R131). -/
def Descriptor.length (d : Descriptor) : Nat := d.format.length

/-- The opcode bytes a fault records: the opcode, or 0xCB and the second byte (R300, R302). -/
def Descriptor.opcodeBytes (d : Descriptor) : List Byte :=
  if d.prefixed then [0xCB, d.opcode] else [d.opcode]

/-- Flags left alone. -/
def FlagPolicy.none : FlagPolicy := ⟨.unaffected, .unaffected, .unaffected, .unaffected⟩

/-- The descriptor of an instruction, its row of spec/opcode_table.json; none for a byte without one (R133, R134). -/
def Instr.descriptor (i : Instr) : Option Descriptor :=
  match i with
  | .nop => some ⟨0x00, false, .nop, .op, [], FlagPolicy.none, [4]⟩
  | .ldBcN16 _ => some ⟨0x01, false, .ld, .opN16, [.r16 .bc, .n16], FlagPolicy.none, [12]⟩
  | .ldAtBcA => some ⟨0x02, false, .ld, .op, [.atBc, .r8 .a], FlagPolicy.none, [8]⟩
  | .incBc => some ⟨0x03, false, .inc, .op, [.r16 .bc], FlagPolicy.none, [8]⟩
  | .incB => some ⟨0x04, false, .inc, .op, [.r8 .b], ⟨.depends, .reset, .depends, .unaffected⟩, [4]⟩
  | .decB => some ⟨0x05, false, .dec, .op, [.r8 .b], ⟨.depends, .set, .depends, .unaffected⟩, [4]⟩
  | .ldBN8 _ => some ⟨0x06, false, .ld, .opN8, [.r8 .b, .n8], FlagPolicy.none, [8]⟩
  | .rlca => some ⟨0x07, false, .rlca, .op, [], ⟨.reset, .reset, .reset, .depends⟩, [4]⟩
  | .ldAtA16Sp _ => some ⟨0x08, false, .ld, .opA16, [.atA16, .r16 .sp], FlagPolicy.none, [20]⟩
  | .addHlBc => some ⟨0x09, false, .add, .op, [.r16 .hl, .r16 .bc], ⟨.unaffected, .reset, .depends, .depends⟩, [8]⟩
  | .ldAAtBc => some ⟨0x0A, false, .ld, .op, [.r8 .a, .atBc], FlagPolicy.none, [8]⟩
  | .decBc => some ⟨0x0B, false, .dec, .op, [.r16 .bc], FlagPolicy.none, [8]⟩
  | .incC => some ⟨0x0C, false, .inc, .op, [.r8 .c], ⟨.depends, .reset, .depends, .unaffected⟩, [4]⟩
  | .decC => some ⟨0x0D, false, .dec, .op, [.r8 .c], ⟨.depends, .set, .depends, .unaffected⟩, [4]⟩
  | .ldCN8 _ => some ⟨0x0E, false, .ld, .opN8, [.r8 .c, .n8], FlagPolicy.none, [8]⟩
  | .rrca => some ⟨0x0F, false, .rrca, .op, [], ⟨.reset, .reset, .reset, .depends⟩, [4]⟩
  | .stop _ => some ⟨0x10, false, .stop, .opStop, [], FlagPolicy.none, [4]⟩
  | .ldDeN16 _ => some ⟨0x11, false, .ld, .opN16, [.r16 .de, .n16], FlagPolicy.none, [12]⟩
  | .ldAtDeA => some ⟨0x12, false, .ld, .op, [.atDe, .r8 .a], FlagPolicy.none, [8]⟩
  | .incDe => some ⟨0x13, false, .inc, .op, [.r16 .de], FlagPolicy.none, [8]⟩
  | .incD => some ⟨0x14, false, .inc, .op, [.r8 .d], ⟨.depends, .reset, .depends, .unaffected⟩, [4]⟩
  | .decD => some ⟨0x15, false, .dec, .op, [.r8 .d], ⟨.depends, .set, .depends, .unaffected⟩, [4]⟩
  | .ldDN8 _ => some ⟨0x16, false, .ld, .opN8, [.r8 .d, .n8], FlagPolicy.none, [8]⟩
  | .rla => some ⟨0x17, false, .rla, .op, [], ⟨.reset, .reset, .reset, .depends⟩, [4]⟩
  | .jrE8 _ => some ⟨0x18, false, .jr, .opE8, [.e8], FlagPolicy.none, [12]⟩
  | .addHlDe => some ⟨0x19, false, .add, .op, [.r16 .hl, .r16 .de], ⟨.unaffected, .reset, .depends, .depends⟩, [8]⟩
  | .ldAAtDe => some ⟨0x1A, false, .ld, .op, [.r8 .a, .atDe], FlagPolicy.none, [8]⟩
  | .decDe => some ⟨0x1B, false, .dec, .op, [.r16 .de], FlagPolicy.none, [8]⟩
  | .incE => some ⟨0x1C, false, .inc, .op, [.r8 .e], ⟨.depends, .reset, .depends, .unaffected⟩, [4]⟩
  | .decE => some ⟨0x1D, false, .dec, .op, [.r8 .e], ⟨.depends, .set, .depends, .unaffected⟩, [4]⟩
  | .ldEN8 _ => some ⟨0x1E, false, .ld, .opN8, [.r8 .e, .n8], FlagPolicy.none, [8]⟩
  | .rra => some ⟨0x1F, false, .rra, .op, [], ⟨.reset, .reset, .reset, .depends⟩, [4]⟩
  | .jrNzE8 _ => some ⟨0x20, false, .jr, .opE8, [.cc .nz, .e8], FlagPolicy.none, [12, 8]⟩
  | .ldHlN16 _ => some ⟨0x21, false, .ld, .opN16, [.r16 .hl, .n16], FlagPolicy.none, [12]⟩
  | .ldAtHlIncA => some ⟨0x22, false, .ld, .op, [.atHlInc, .r8 .a], FlagPolicy.none, [8]⟩
  | .incHl => some ⟨0x23, false, .inc, .op, [.r16 .hl], FlagPolicy.none, [8]⟩
  | .incH => some ⟨0x24, false, .inc, .op, [.r8 .h], ⟨.depends, .reset, .depends, .unaffected⟩, [4]⟩
  | .decH => some ⟨0x25, false, .dec, .op, [.r8 .h], ⟨.depends, .set, .depends, .unaffected⟩, [4]⟩
  | .ldHN8 _ => some ⟨0x26, false, .ld, .opN8, [.r8 .h, .n8], FlagPolicy.none, [8]⟩
  | .daa => some ⟨0x27, false, .daa, .op, [], ⟨.depends, .unaffected, .reset, .depends⟩, [4]⟩
  | .jrZE8 _ => some ⟨0x28, false, .jr, .opE8, [.cc .z, .e8], FlagPolicy.none, [12, 8]⟩
  | .addHlHl => some ⟨0x29, false, .add, .op, [.r16 .hl, .r16 .hl], ⟨.unaffected, .reset, .depends, .depends⟩, [8]⟩
  | .ldAAtHlInc => some ⟨0x2A, false, .ld, .op, [.r8 .a, .atHlInc], FlagPolicy.none, [8]⟩
  | .decHl => some ⟨0x2B, false, .dec, .op, [.r16 .hl], FlagPolicy.none, [8]⟩
  | .incL => some ⟨0x2C, false, .inc, .op, [.r8 .l], ⟨.depends, .reset, .depends, .unaffected⟩, [4]⟩
  | .decL => some ⟨0x2D, false, .dec, .op, [.r8 .l], ⟨.depends, .set, .depends, .unaffected⟩, [4]⟩
  | .ldLN8 _ => some ⟨0x2E, false, .ld, .opN8, [.r8 .l, .n8], FlagPolicy.none, [8]⟩
  | .cpl => some ⟨0x2F, false, .cpl, .op, [], ⟨.unaffected, .set, .set, .unaffected⟩, [4]⟩
  | .jrNcE8 _ => some ⟨0x30, false, .jr, .opE8, [.cc .nc, .e8], FlagPolicy.none, [12, 8]⟩
  | .ldSpN16 _ => some ⟨0x31, false, .ld, .opN16, [.r16 .sp, .n16], FlagPolicy.none, [12]⟩
  | .ldAtHlDecA => some ⟨0x32, false, .ld, .op, [.atHlDec, .r8 .a], FlagPolicy.none, [8]⟩
  | .incSp => some ⟨0x33, false, .inc, .op, [.r16 .sp], FlagPolicy.none, [8]⟩
  | .incAtHl => some ⟨0x34, false, .inc, .op, [.r8 .atHl], ⟨.depends, .reset, .depends, .unaffected⟩, [12]⟩
  | .decAtHl => some ⟨0x35, false, .dec, .op, [.r8 .atHl], ⟨.depends, .set, .depends, .unaffected⟩, [12]⟩
  | .ldAtHlN8 _ => some ⟨0x36, false, .ld, .opN8, [.r8 .atHl, .n8], FlagPolicy.none, [12]⟩
  | .scf => some ⟨0x37, false, .scf, .op, [], ⟨.unaffected, .reset, .reset, .set⟩, [4]⟩
  | .jrCE8 _ => some ⟨0x38, false, .jr, .opE8, [.cc .c, .e8], FlagPolicy.none, [12, 8]⟩
  | .addHlSp => some ⟨0x39, false, .add, .op, [.r16 .hl, .r16 .sp], ⟨.unaffected, .reset, .depends, .depends⟩, [8]⟩
  | .ldAAtHlDec => some ⟨0x3A, false, .ld, .op, [.r8 .a, .atHlDec], FlagPolicy.none, [8]⟩
  | .decSp => some ⟨0x3B, false, .dec, .op, [.r16 .sp], FlagPolicy.none, [8]⟩
  | .incA => some ⟨0x3C, false, .inc, .op, [.r8 .a], ⟨.depends, .reset, .depends, .unaffected⟩, [4]⟩
  | .decA => some ⟨0x3D, false, .dec, .op, [.r8 .a], ⟨.depends, .set, .depends, .unaffected⟩, [4]⟩
  | .ldAN8 _ => some ⟨0x3E, false, .ld, .opN8, [.r8 .a, .n8], FlagPolicy.none, [8]⟩
  | .ccf => some ⟨0x3F, false, .ccf, .op, [], ⟨.unaffected, .reset, .reset, .depends⟩, [4]⟩
  | .ldBB => some ⟨0x40, false, .ld, .op, [.r8 .b, .r8 .b], FlagPolicy.none, [4]⟩
  | .ldBC => some ⟨0x41, false, .ld, .op, [.r8 .b, .r8 .c], FlagPolicy.none, [4]⟩
  | .ldBD => some ⟨0x42, false, .ld, .op, [.r8 .b, .r8 .d], FlagPolicy.none, [4]⟩
  | .ldBE => some ⟨0x43, false, .ld, .op, [.r8 .b, .r8 .e], FlagPolicy.none, [4]⟩
  | .ldBH => some ⟨0x44, false, .ld, .op, [.r8 .b, .r8 .h], FlagPolicy.none, [4]⟩
  | .ldBL => some ⟨0x45, false, .ld, .op, [.r8 .b, .r8 .l], FlagPolicy.none, [4]⟩
  | .ldBAtHl => some ⟨0x46, false, .ld, .op, [.r8 .b, .r8 .atHl], FlagPolicy.none, [8]⟩
  | .ldBA => some ⟨0x47, false, .ld, .op, [.r8 .b, .r8 .a], FlagPolicy.none, [4]⟩
  | .ldCB => some ⟨0x48, false, .ld, .op, [.r8 .c, .r8 .b], FlagPolicy.none, [4]⟩
  | .ldCC => some ⟨0x49, false, .ld, .op, [.r8 .c, .r8 .c], FlagPolicy.none, [4]⟩
  | .ldCD => some ⟨0x4A, false, .ld, .op, [.r8 .c, .r8 .d], FlagPolicy.none, [4]⟩
  | .ldCE => some ⟨0x4B, false, .ld, .op, [.r8 .c, .r8 .e], FlagPolicy.none, [4]⟩
  | .ldCH => some ⟨0x4C, false, .ld, .op, [.r8 .c, .r8 .h], FlagPolicy.none, [4]⟩
  | .ldCL => some ⟨0x4D, false, .ld, .op, [.r8 .c, .r8 .l], FlagPolicy.none, [4]⟩
  | .ldCAtHl => some ⟨0x4E, false, .ld, .op, [.r8 .c, .r8 .atHl], FlagPolicy.none, [8]⟩
  | .ldCA => some ⟨0x4F, false, .ld, .op, [.r8 .c, .r8 .a], FlagPolicy.none, [4]⟩
  | .ldDB => some ⟨0x50, false, .ld, .op, [.r8 .d, .r8 .b], FlagPolicy.none, [4]⟩
  | .ldDC => some ⟨0x51, false, .ld, .op, [.r8 .d, .r8 .c], FlagPolicy.none, [4]⟩
  | .ldDD => some ⟨0x52, false, .ld, .op, [.r8 .d, .r8 .d], FlagPolicy.none, [4]⟩
  | .ldDE => some ⟨0x53, false, .ld, .op, [.r8 .d, .r8 .e], FlagPolicy.none, [4]⟩
  | .ldDH => some ⟨0x54, false, .ld, .op, [.r8 .d, .r8 .h], FlagPolicy.none, [4]⟩
  | .ldDL => some ⟨0x55, false, .ld, .op, [.r8 .d, .r8 .l], FlagPolicy.none, [4]⟩
  | .ldDAtHl => some ⟨0x56, false, .ld, .op, [.r8 .d, .r8 .atHl], FlagPolicy.none, [8]⟩
  | .ldDA => some ⟨0x57, false, .ld, .op, [.r8 .d, .r8 .a], FlagPolicy.none, [4]⟩
  | .ldEB => some ⟨0x58, false, .ld, .op, [.r8 .e, .r8 .b], FlagPolicy.none, [4]⟩
  | .ldEC => some ⟨0x59, false, .ld, .op, [.r8 .e, .r8 .c], FlagPolicy.none, [4]⟩
  | .ldED => some ⟨0x5A, false, .ld, .op, [.r8 .e, .r8 .d], FlagPolicy.none, [4]⟩
  | .ldEE => some ⟨0x5B, false, .ld, .op, [.r8 .e, .r8 .e], FlagPolicy.none, [4]⟩
  | .ldEH => some ⟨0x5C, false, .ld, .op, [.r8 .e, .r8 .h], FlagPolicy.none, [4]⟩
  | .ldEL => some ⟨0x5D, false, .ld, .op, [.r8 .e, .r8 .l], FlagPolicy.none, [4]⟩
  | .ldEAtHl => some ⟨0x5E, false, .ld, .op, [.r8 .e, .r8 .atHl], FlagPolicy.none, [8]⟩
  | .ldEA => some ⟨0x5F, false, .ld, .op, [.r8 .e, .r8 .a], FlagPolicy.none, [4]⟩
  | .ldHB => some ⟨0x60, false, .ld, .op, [.r8 .h, .r8 .b], FlagPolicy.none, [4]⟩
  | .ldHC => some ⟨0x61, false, .ld, .op, [.r8 .h, .r8 .c], FlagPolicy.none, [4]⟩
  | .ldHD => some ⟨0x62, false, .ld, .op, [.r8 .h, .r8 .d], FlagPolicy.none, [4]⟩
  | .ldHE => some ⟨0x63, false, .ld, .op, [.r8 .h, .r8 .e], FlagPolicy.none, [4]⟩
  | .ldHH => some ⟨0x64, false, .ld, .op, [.r8 .h, .r8 .h], FlagPolicy.none, [4]⟩
  | .ldHL => some ⟨0x65, false, .ld, .op, [.r8 .h, .r8 .l], FlagPolicy.none, [4]⟩
  | .ldHAtHl => some ⟨0x66, false, .ld, .op, [.r8 .h, .r8 .atHl], FlagPolicy.none, [8]⟩
  | .ldHA => some ⟨0x67, false, .ld, .op, [.r8 .h, .r8 .a], FlagPolicy.none, [4]⟩
  | .ldLB => some ⟨0x68, false, .ld, .op, [.r8 .l, .r8 .b], FlagPolicy.none, [4]⟩
  | .ldLC => some ⟨0x69, false, .ld, .op, [.r8 .l, .r8 .c], FlagPolicy.none, [4]⟩
  | .ldLD => some ⟨0x6A, false, .ld, .op, [.r8 .l, .r8 .d], FlagPolicy.none, [4]⟩
  | .ldLE => some ⟨0x6B, false, .ld, .op, [.r8 .l, .r8 .e], FlagPolicy.none, [4]⟩
  | .ldLH => some ⟨0x6C, false, .ld, .op, [.r8 .l, .r8 .h], FlagPolicy.none, [4]⟩
  | .ldLL => some ⟨0x6D, false, .ld, .op, [.r8 .l, .r8 .l], FlagPolicy.none, [4]⟩
  | .ldLAtHl => some ⟨0x6E, false, .ld, .op, [.r8 .l, .r8 .atHl], FlagPolicy.none, [8]⟩
  | .ldLA => some ⟨0x6F, false, .ld, .op, [.r8 .l, .r8 .a], FlagPolicy.none, [4]⟩
  | .ldAtHlB => some ⟨0x70, false, .ld, .op, [.r8 .atHl, .r8 .b], FlagPolicy.none, [8]⟩
  | .ldAtHlC => some ⟨0x71, false, .ld, .op, [.r8 .atHl, .r8 .c], FlagPolicy.none, [8]⟩
  | .ldAtHlD => some ⟨0x72, false, .ld, .op, [.r8 .atHl, .r8 .d], FlagPolicy.none, [8]⟩
  | .ldAtHlE => some ⟨0x73, false, .ld, .op, [.r8 .atHl, .r8 .e], FlagPolicy.none, [8]⟩
  | .ldAtHlH => some ⟨0x74, false, .ld, .op, [.r8 .atHl, .r8 .h], FlagPolicy.none, [8]⟩
  | .ldAtHlL => some ⟨0x75, false, .ld, .op, [.r8 .atHl, .r8 .l], FlagPolicy.none, [8]⟩
  | .halt => some ⟨0x76, false, .halt, .op, [], FlagPolicy.none, [4]⟩
  | .ldAtHlA => some ⟨0x77, false, .ld, .op, [.r8 .atHl, .r8 .a], FlagPolicy.none, [8]⟩
  | .ldAB => some ⟨0x78, false, .ld, .op, [.r8 .a, .r8 .b], FlagPolicy.none, [4]⟩
  | .ldAC => some ⟨0x79, false, .ld, .op, [.r8 .a, .r8 .c], FlagPolicy.none, [4]⟩
  | .ldAD => some ⟨0x7A, false, .ld, .op, [.r8 .a, .r8 .d], FlagPolicy.none, [4]⟩
  | .ldAE => some ⟨0x7B, false, .ld, .op, [.r8 .a, .r8 .e], FlagPolicy.none, [4]⟩
  | .ldAH => some ⟨0x7C, false, .ld, .op, [.r8 .a, .r8 .h], FlagPolicy.none, [4]⟩
  | .ldAL => some ⟨0x7D, false, .ld, .op, [.r8 .a, .r8 .l], FlagPolicy.none, [4]⟩
  | .ldAAtHl => some ⟨0x7E, false, .ld, .op, [.r8 .a, .r8 .atHl], FlagPolicy.none, [8]⟩
  | .ldAA => some ⟨0x7F, false, .ld, .op, [.r8 .a, .r8 .a], FlagPolicy.none, [4]⟩
  | .addAB => some ⟨0x80, false, .add, .op, [.r8 .a, .r8 .b], ⟨.depends, .reset, .depends, .depends⟩, [4]⟩
  | .addAC => some ⟨0x81, false, .add, .op, [.r8 .a, .r8 .c], ⟨.depends, .reset, .depends, .depends⟩, [4]⟩
  | .addAD => some ⟨0x82, false, .add, .op, [.r8 .a, .r8 .d], ⟨.depends, .reset, .depends, .depends⟩, [4]⟩
  | .addAE => some ⟨0x83, false, .add, .op, [.r8 .a, .r8 .e], ⟨.depends, .reset, .depends, .depends⟩, [4]⟩
  | .addAH => some ⟨0x84, false, .add, .op, [.r8 .a, .r8 .h], ⟨.depends, .reset, .depends, .depends⟩, [4]⟩
  | .addAL => some ⟨0x85, false, .add, .op, [.r8 .a, .r8 .l], ⟨.depends, .reset, .depends, .depends⟩, [4]⟩
  | .addAAtHl => some ⟨0x86, false, .add, .op, [.r8 .a, .r8 .atHl], ⟨.depends, .reset, .depends, .depends⟩, [8]⟩
  | .addAA => some ⟨0x87, false, .add, .op, [.r8 .a, .r8 .a], ⟨.depends, .reset, .depends, .depends⟩, [4]⟩
  | .adcAB => some ⟨0x88, false, .adc, .op, [.r8 .a, .r8 .b], ⟨.depends, .reset, .depends, .depends⟩, [4]⟩
  | .adcAC => some ⟨0x89, false, .adc, .op, [.r8 .a, .r8 .c], ⟨.depends, .reset, .depends, .depends⟩, [4]⟩
  | .adcAD => some ⟨0x8A, false, .adc, .op, [.r8 .a, .r8 .d], ⟨.depends, .reset, .depends, .depends⟩, [4]⟩
  | .adcAE => some ⟨0x8B, false, .adc, .op, [.r8 .a, .r8 .e], ⟨.depends, .reset, .depends, .depends⟩, [4]⟩
  | .adcAH => some ⟨0x8C, false, .adc, .op, [.r8 .a, .r8 .h], ⟨.depends, .reset, .depends, .depends⟩, [4]⟩
  | .adcAL => some ⟨0x8D, false, .adc, .op, [.r8 .a, .r8 .l], ⟨.depends, .reset, .depends, .depends⟩, [4]⟩
  | .adcAAtHl => some ⟨0x8E, false, .adc, .op, [.r8 .a, .r8 .atHl], ⟨.depends, .reset, .depends, .depends⟩, [8]⟩
  | .adcAA => some ⟨0x8F, false, .adc, .op, [.r8 .a, .r8 .a], ⟨.depends, .reset, .depends, .depends⟩, [4]⟩
  | .subAB => some ⟨0x90, false, .sub, .op, [.r8 .a, .r8 .b], ⟨.depends, .set, .depends, .depends⟩, [4]⟩
  | .subAC => some ⟨0x91, false, .sub, .op, [.r8 .a, .r8 .c], ⟨.depends, .set, .depends, .depends⟩, [4]⟩
  | .subAD => some ⟨0x92, false, .sub, .op, [.r8 .a, .r8 .d], ⟨.depends, .set, .depends, .depends⟩, [4]⟩
  | .subAE => some ⟨0x93, false, .sub, .op, [.r8 .a, .r8 .e], ⟨.depends, .set, .depends, .depends⟩, [4]⟩
  | .subAH => some ⟨0x94, false, .sub, .op, [.r8 .a, .r8 .h], ⟨.depends, .set, .depends, .depends⟩, [4]⟩
  | .subAL => some ⟨0x95, false, .sub, .op, [.r8 .a, .r8 .l], ⟨.depends, .set, .depends, .depends⟩, [4]⟩
  | .subAAtHl => some ⟨0x96, false, .sub, .op, [.r8 .a, .r8 .atHl], ⟨.depends, .set, .depends, .depends⟩, [8]⟩
  | .subAA => some ⟨0x97, false, .sub, .op, [.r8 .a, .r8 .a], ⟨.depends, .set, .depends, .depends⟩, [4]⟩
  | .sbcAB => some ⟨0x98, false, .sbc, .op, [.r8 .a, .r8 .b], ⟨.depends, .set, .depends, .depends⟩, [4]⟩
  | .sbcAC => some ⟨0x99, false, .sbc, .op, [.r8 .a, .r8 .c], ⟨.depends, .set, .depends, .depends⟩, [4]⟩
  | .sbcAD => some ⟨0x9A, false, .sbc, .op, [.r8 .a, .r8 .d], ⟨.depends, .set, .depends, .depends⟩, [4]⟩
  | .sbcAE => some ⟨0x9B, false, .sbc, .op, [.r8 .a, .r8 .e], ⟨.depends, .set, .depends, .depends⟩, [4]⟩
  | .sbcAH => some ⟨0x9C, false, .sbc, .op, [.r8 .a, .r8 .h], ⟨.depends, .set, .depends, .depends⟩, [4]⟩
  | .sbcAL => some ⟨0x9D, false, .sbc, .op, [.r8 .a, .r8 .l], ⟨.depends, .set, .depends, .depends⟩, [4]⟩
  | .sbcAAtHl => some ⟨0x9E, false, .sbc, .op, [.r8 .a, .r8 .atHl], ⟨.depends, .set, .depends, .depends⟩, [8]⟩
  | .sbcAA => some ⟨0x9F, false, .sbc, .op, [.r8 .a, .r8 .a], ⟨.depends, .set, .depends, .depends⟩, [4]⟩
  | .andAB => some ⟨0xA0, false, .and, .op, [.r8 .a, .r8 .b], ⟨.depends, .reset, .set, .reset⟩, [4]⟩
  | .andAC => some ⟨0xA1, false, .and, .op, [.r8 .a, .r8 .c], ⟨.depends, .reset, .set, .reset⟩, [4]⟩
  | .andAD => some ⟨0xA2, false, .and, .op, [.r8 .a, .r8 .d], ⟨.depends, .reset, .set, .reset⟩, [4]⟩
  | .andAE => some ⟨0xA3, false, .and, .op, [.r8 .a, .r8 .e], ⟨.depends, .reset, .set, .reset⟩, [4]⟩
  | .andAH => some ⟨0xA4, false, .and, .op, [.r8 .a, .r8 .h], ⟨.depends, .reset, .set, .reset⟩, [4]⟩
  | .andAL => some ⟨0xA5, false, .and, .op, [.r8 .a, .r8 .l], ⟨.depends, .reset, .set, .reset⟩, [4]⟩
  | .andAAtHl => some ⟨0xA6, false, .and, .op, [.r8 .a, .r8 .atHl], ⟨.depends, .reset, .set, .reset⟩, [8]⟩
  | .andAA => some ⟨0xA7, false, .and, .op, [.r8 .a, .r8 .a], ⟨.depends, .reset, .set, .reset⟩, [4]⟩
  | .xorAB => some ⟨0xA8, false, .xor, .op, [.r8 .a, .r8 .b], ⟨.depends, .reset, .reset, .reset⟩, [4]⟩
  | .xorAC => some ⟨0xA9, false, .xor, .op, [.r8 .a, .r8 .c], ⟨.depends, .reset, .reset, .reset⟩, [4]⟩
  | .xorAD => some ⟨0xAA, false, .xor, .op, [.r8 .a, .r8 .d], ⟨.depends, .reset, .reset, .reset⟩, [4]⟩
  | .xorAE => some ⟨0xAB, false, .xor, .op, [.r8 .a, .r8 .e], ⟨.depends, .reset, .reset, .reset⟩, [4]⟩
  | .xorAH => some ⟨0xAC, false, .xor, .op, [.r8 .a, .r8 .h], ⟨.depends, .reset, .reset, .reset⟩, [4]⟩
  | .xorAL => some ⟨0xAD, false, .xor, .op, [.r8 .a, .r8 .l], ⟨.depends, .reset, .reset, .reset⟩, [4]⟩
  | .xorAAtHl => some ⟨0xAE, false, .xor, .op, [.r8 .a, .r8 .atHl], ⟨.depends, .reset, .reset, .reset⟩, [8]⟩
  | .xorAA => some ⟨0xAF, false, .xor, .op, [.r8 .a, .r8 .a], ⟨.depends, .reset, .reset, .reset⟩, [4]⟩
  | .orAB => some ⟨0xB0, false, .or, .op, [.r8 .a, .r8 .b], ⟨.depends, .reset, .reset, .reset⟩, [4]⟩
  | .orAC => some ⟨0xB1, false, .or, .op, [.r8 .a, .r8 .c], ⟨.depends, .reset, .reset, .reset⟩, [4]⟩
  | .orAD => some ⟨0xB2, false, .or, .op, [.r8 .a, .r8 .d], ⟨.depends, .reset, .reset, .reset⟩, [4]⟩
  | .orAE => some ⟨0xB3, false, .or, .op, [.r8 .a, .r8 .e], ⟨.depends, .reset, .reset, .reset⟩, [4]⟩
  | .orAH => some ⟨0xB4, false, .or, .op, [.r8 .a, .r8 .h], ⟨.depends, .reset, .reset, .reset⟩, [4]⟩
  | .orAL => some ⟨0xB5, false, .or, .op, [.r8 .a, .r8 .l], ⟨.depends, .reset, .reset, .reset⟩, [4]⟩
  | .orAAtHl => some ⟨0xB6, false, .or, .op, [.r8 .a, .r8 .atHl], ⟨.depends, .reset, .reset, .reset⟩, [8]⟩
  | .orAA => some ⟨0xB7, false, .or, .op, [.r8 .a, .r8 .a], ⟨.depends, .reset, .reset, .reset⟩, [4]⟩
  | .cpAB => some ⟨0xB8, false, .cp, .op, [.r8 .a, .r8 .b], ⟨.depends, .set, .depends, .depends⟩, [4]⟩
  | .cpAC => some ⟨0xB9, false, .cp, .op, [.r8 .a, .r8 .c], ⟨.depends, .set, .depends, .depends⟩, [4]⟩
  | .cpAD => some ⟨0xBA, false, .cp, .op, [.r8 .a, .r8 .d], ⟨.depends, .set, .depends, .depends⟩, [4]⟩
  | .cpAE => some ⟨0xBB, false, .cp, .op, [.r8 .a, .r8 .e], ⟨.depends, .set, .depends, .depends⟩, [4]⟩
  | .cpAH => some ⟨0xBC, false, .cp, .op, [.r8 .a, .r8 .h], ⟨.depends, .set, .depends, .depends⟩, [4]⟩
  | .cpAL => some ⟨0xBD, false, .cp, .op, [.r8 .a, .r8 .l], ⟨.depends, .set, .depends, .depends⟩, [4]⟩
  | .cpAAtHl => some ⟨0xBE, false, .cp, .op, [.r8 .a, .r8 .atHl], ⟨.depends, .set, .depends, .depends⟩, [8]⟩
  | .cpAA => some ⟨0xBF, false, .cp, .op, [.r8 .a, .r8 .a], ⟨.depends, .set, .depends, .depends⟩, [4]⟩
  | .retNz => some ⟨0xC0, false, .ret, .op, [.cc .nz], FlagPolicy.none, [20, 8]⟩
  | .popBc => some ⟨0xC1, false, .pop, .op, [.r16 .bc], FlagPolicy.none, [12]⟩
  | .jpNzA16 _ => some ⟨0xC2, false, .jp, .opA16, [.cc .nz, .a16], FlagPolicy.none, [16, 12]⟩
  | .jpA16 _ => some ⟨0xC3, false, .jp, .opA16, [.a16], FlagPolicy.none, [16]⟩
  | .callNzA16 _ => some ⟨0xC4, false, .call, .opA16, [.cc .nz, .a16], FlagPolicy.none, [24, 12]⟩
  | .pushBc => some ⟨0xC5, false, .push, .op, [.r16 .bc], FlagPolicy.none, [16]⟩
  | .addAN8 _ => some ⟨0xC6, false, .add, .opN8, [.r8 .a, .n8], ⟨.depends, .reset, .depends, .depends⟩, [8]⟩
  | .rst00 => some ⟨0xC7, false, .rst, .op, [.vector 0x00], FlagPolicy.none, [16]⟩
  | .retZ => some ⟨0xC8, false, .ret, .op, [.cc .z], FlagPolicy.none, [20, 8]⟩
  | .ret => some ⟨0xC9, false, .ret, .op, [], FlagPolicy.none, [16]⟩
  | .jpZA16 _ => some ⟨0xCA, false, .jp, .opA16, [.cc .z, .a16], FlagPolicy.none, [16, 12]⟩
  | .prefixCb _ => some ⟨0xCB, false, .prefixCb, .cb, [], FlagPolicy.none, [4]⟩
  | .callZA16 _ => some ⟨0xCC, false, .call, .opA16, [.cc .z, .a16], FlagPolicy.none, [24, 12]⟩
  | .callA16 _ => some ⟨0xCD, false, .call, .opA16, [.a16], FlagPolicy.none, [24]⟩
  | .adcAN8 _ => some ⟨0xCE, false, .adc, .opN8, [.r8 .a, .n8], ⟨.depends, .reset, .depends, .depends⟩, [8]⟩
  | .rst08 => some ⟨0xCF, false, .rst, .op, [.vector 0x08], FlagPolicy.none, [16]⟩
  | .retNc => some ⟨0xD0, false, .ret, .op, [.cc .nc], FlagPolicy.none, [20, 8]⟩
  | .popDe => some ⟨0xD1, false, .pop, .op, [.r16 .de], FlagPolicy.none, [12]⟩
  | .jpNcA16 _ => some ⟨0xD2, false, .jp, .opA16, [.cc .nc, .a16], FlagPolicy.none, [16, 12]⟩
  | .illegal _ => none
  | .callNcA16 _ => some ⟨0xD4, false, .call, .opA16, [.cc .nc, .a16], FlagPolicy.none, [24, 12]⟩
  | .pushDe => some ⟨0xD5, false, .push, .op, [.r16 .de], FlagPolicy.none, [16]⟩
  | .subAN8 _ => some ⟨0xD6, false, .sub, .opN8, [.r8 .a, .n8], ⟨.depends, .set, .depends, .depends⟩, [8]⟩
  | .rst10 => some ⟨0xD7, false, .rst, .op, [.vector 0x10], FlagPolicy.none, [16]⟩
  | .retC => some ⟨0xD8, false, .ret, .op, [.cc .c], FlagPolicy.none, [20, 8]⟩
  | .reti => some ⟨0xD9, false, .reti, .op, [], FlagPolicy.none, [16]⟩
  | .jpCA16 _ => some ⟨0xDA, false, .jp, .opA16, [.cc .c, .a16], FlagPolicy.none, [16, 12]⟩
  | .callCA16 _ => some ⟨0xDC, false, .call, .opA16, [.cc .c, .a16], FlagPolicy.none, [24, 12]⟩
  | .sbcAN8 _ => some ⟨0xDE, false, .sbc, .opN8, [.r8 .a, .n8], ⟨.depends, .set, .depends, .depends⟩, [8]⟩
  | .rst18 => some ⟨0xDF, false, .rst, .op, [.vector 0x18], FlagPolicy.none, [16]⟩
  | .ldhAtA8A _ => some ⟨0xE0, false, .ldh, .opA8, [.atA8, .r8 .a], FlagPolicy.none, [12]⟩
  | .popHl => some ⟨0xE1, false, .pop, .op, [.r16 .hl], FlagPolicy.none, [12]⟩
  | .ldAtCA => some ⟨0xE2, false, .ld, .op, [.atC, .r8 .a], FlagPolicy.none, [8]⟩
  | .pushHl => some ⟨0xE5, false, .push, .op, [.r16 .hl], FlagPolicy.none, [16]⟩
  | .andAN8 _ => some ⟨0xE6, false, .and, .opN8, [.r8 .a, .n8], ⟨.depends, .reset, .set, .reset⟩, [8]⟩
  | .rst20 => some ⟨0xE7, false, .rst, .op, [.vector 0x20], FlagPolicy.none, [16]⟩
  | .addSpE8 _ => some ⟨0xE8, false, .add, .opE8, [.r16 .sp, .e8], ⟨.reset, .reset, .depends, .depends⟩, [16]⟩
  | .jpHl => some ⟨0xE9, false, .jp, .op, [.r16 .hl], FlagPolicy.none, [4]⟩
  | .ldAtA16A _ => some ⟨0xEA, false, .ld, .opA16, [.atA16, .r8 .a], FlagPolicy.none, [16]⟩
  | .xorAN8 _ => some ⟨0xEE, false, .xor, .opN8, [.r8 .a, .n8], ⟨.depends, .reset, .reset, .reset⟩, [8]⟩
  | .rst28 => some ⟨0xEF, false, .rst, .op, [.vector 0x28], FlagPolicy.none, [16]⟩
  | .ldhAAtA8 _ => some ⟨0xF0, false, .ldh, .opA8, [.r8 .a, .atA8], FlagPolicy.none, [12]⟩
  | .popAf => some ⟨0xF1, false, .pop, .op, [.af], ⟨.depends, .depends, .depends, .depends⟩, [12]⟩
  | .ldAAtC => some ⟨0xF2, false, .ld, .op, [.r8 .a, .atC], FlagPolicy.none, [8]⟩
  | .di => some ⟨0xF3, false, .di, .op, [], FlagPolicy.none, [4]⟩
  | .pushAf => some ⟨0xF5, false, .push, .op, [.af], FlagPolicy.none, [16]⟩
  | .orAN8 _ => some ⟨0xF6, false, .or, .opN8, [.r8 .a, .n8], ⟨.depends, .reset, .reset, .reset⟩, [8]⟩
  | .rst30 => some ⟨0xF7, false, .rst, .op, [.vector 0x30], FlagPolicy.none, [16]⟩
  | .ldHlSpE8 _ => some ⟨0xF8, false, .ld, .opE8, [.r16 .hl, .r16 .sp, .e8], ⟨.reset, .reset, .depends, .depends⟩, [12]⟩
  | .ldSpHl => some ⟨0xF9, false, .ld, .op, [.r16 .sp, .r16 .hl], FlagPolicy.none, [8]⟩
  | .ldAAtA16 _ => some ⟨0xFA, false, .ld, .opA16, [.r8 .a, .atA16], FlagPolicy.none, [16]⟩
  | .ei => some ⟨0xFB, false, .ei, .op, [], FlagPolicy.none, [4]⟩
  | .cpAN8 _ => some ⟨0xFE, false, .cp, .opN8, [.r8 .a, .n8], ⟨.depends, .set, .depends, .depends⟩, [8]⟩
  | .rst38 => some ⟨0xFF, false, .rst, .op, [.vector 0x38], FlagPolicy.none, [16]⟩
  | .rlcB => some ⟨0x00, true, .rlc, .cb, [.r8 .b], ⟨.depends, .reset, .reset, .depends⟩, [8]⟩
  | .rlcC => some ⟨0x01, true, .rlc, .cb, [.r8 .c], ⟨.depends, .reset, .reset, .depends⟩, [8]⟩
  | .rlcD => some ⟨0x02, true, .rlc, .cb, [.r8 .d], ⟨.depends, .reset, .reset, .depends⟩, [8]⟩
  | .rlcE => some ⟨0x03, true, .rlc, .cb, [.r8 .e], ⟨.depends, .reset, .reset, .depends⟩, [8]⟩
  | .rlcH => some ⟨0x04, true, .rlc, .cb, [.r8 .h], ⟨.depends, .reset, .reset, .depends⟩, [8]⟩
  | .rlcL => some ⟨0x05, true, .rlc, .cb, [.r8 .l], ⟨.depends, .reset, .reset, .depends⟩, [8]⟩
  | .rlcAtHl => some ⟨0x06, true, .rlc, .cb, [.r8 .atHl], ⟨.depends, .reset, .reset, .depends⟩, [16]⟩
  | .rlcA => some ⟨0x07, true, .rlc, .cb, [.r8 .a], ⟨.depends, .reset, .reset, .depends⟩, [8]⟩
  | .rrcB => some ⟨0x08, true, .rrc, .cb, [.r8 .b], ⟨.depends, .reset, .reset, .depends⟩, [8]⟩
  | .rrcC => some ⟨0x09, true, .rrc, .cb, [.r8 .c], ⟨.depends, .reset, .reset, .depends⟩, [8]⟩
  | .rrcD => some ⟨0x0A, true, .rrc, .cb, [.r8 .d], ⟨.depends, .reset, .reset, .depends⟩, [8]⟩
  | .rrcE => some ⟨0x0B, true, .rrc, .cb, [.r8 .e], ⟨.depends, .reset, .reset, .depends⟩, [8]⟩
  | .rrcH => some ⟨0x0C, true, .rrc, .cb, [.r8 .h], ⟨.depends, .reset, .reset, .depends⟩, [8]⟩
  | .rrcL => some ⟨0x0D, true, .rrc, .cb, [.r8 .l], ⟨.depends, .reset, .reset, .depends⟩, [8]⟩
  | .rrcAtHl => some ⟨0x0E, true, .rrc, .cb, [.r8 .atHl], ⟨.depends, .reset, .reset, .depends⟩, [16]⟩
  | .rrcA => some ⟨0x0F, true, .rrc, .cb, [.r8 .a], ⟨.depends, .reset, .reset, .depends⟩, [8]⟩
  | .rlB => some ⟨0x10, true, .rl, .cb, [.r8 .b], ⟨.depends, .reset, .reset, .depends⟩, [8]⟩
  | .rlC => some ⟨0x11, true, .rl, .cb, [.r8 .c], ⟨.depends, .reset, .reset, .depends⟩, [8]⟩
  | .rlD => some ⟨0x12, true, .rl, .cb, [.r8 .d], ⟨.depends, .reset, .reset, .depends⟩, [8]⟩
  | .rlE => some ⟨0x13, true, .rl, .cb, [.r8 .e], ⟨.depends, .reset, .reset, .depends⟩, [8]⟩
  | .rlH => some ⟨0x14, true, .rl, .cb, [.r8 .h], ⟨.depends, .reset, .reset, .depends⟩, [8]⟩
  | .rlL => some ⟨0x15, true, .rl, .cb, [.r8 .l], ⟨.depends, .reset, .reset, .depends⟩, [8]⟩
  | .rlAtHl => some ⟨0x16, true, .rl, .cb, [.r8 .atHl], ⟨.depends, .reset, .reset, .depends⟩, [16]⟩
  | .rlA => some ⟨0x17, true, .rl, .cb, [.r8 .a], ⟨.depends, .reset, .reset, .depends⟩, [8]⟩
  | .rrB => some ⟨0x18, true, .rr, .cb, [.r8 .b], ⟨.depends, .reset, .reset, .depends⟩, [8]⟩
  | .rrC => some ⟨0x19, true, .rr, .cb, [.r8 .c], ⟨.depends, .reset, .reset, .depends⟩, [8]⟩
  | .rrD => some ⟨0x1A, true, .rr, .cb, [.r8 .d], ⟨.depends, .reset, .reset, .depends⟩, [8]⟩
  | .rrE => some ⟨0x1B, true, .rr, .cb, [.r8 .e], ⟨.depends, .reset, .reset, .depends⟩, [8]⟩
  | .rrH => some ⟨0x1C, true, .rr, .cb, [.r8 .h], ⟨.depends, .reset, .reset, .depends⟩, [8]⟩
  | .rrL => some ⟨0x1D, true, .rr, .cb, [.r8 .l], ⟨.depends, .reset, .reset, .depends⟩, [8]⟩
  | .rrAtHl => some ⟨0x1E, true, .rr, .cb, [.r8 .atHl], ⟨.depends, .reset, .reset, .depends⟩, [16]⟩
  | .rrA => some ⟨0x1F, true, .rr, .cb, [.r8 .a], ⟨.depends, .reset, .reset, .depends⟩, [8]⟩
  | .slaB => some ⟨0x20, true, .sla, .cb, [.r8 .b], ⟨.depends, .reset, .reset, .depends⟩, [8]⟩
  | .slaC => some ⟨0x21, true, .sla, .cb, [.r8 .c], ⟨.depends, .reset, .reset, .depends⟩, [8]⟩
  | .slaD => some ⟨0x22, true, .sla, .cb, [.r8 .d], ⟨.depends, .reset, .reset, .depends⟩, [8]⟩
  | .slaE => some ⟨0x23, true, .sla, .cb, [.r8 .e], ⟨.depends, .reset, .reset, .depends⟩, [8]⟩
  | .slaH => some ⟨0x24, true, .sla, .cb, [.r8 .h], ⟨.depends, .reset, .reset, .depends⟩, [8]⟩
  | .slaL => some ⟨0x25, true, .sla, .cb, [.r8 .l], ⟨.depends, .reset, .reset, .depends⟩, [8]⟩
  | .slaAtHl => some ⟨0x26, true, .sla, .cb, [.r8 .atHl], ⟨.depends, .reset, .reset, .depends⟩, [16]⟩
  | .slaA => some ⟨0x27, true, .sla, .cb, [.r8 .a], ⟨.depends, .reset, .reset, .depends⟩, [8]⟩
  | .sraB => some ⟨0x28, true, .sra, .cb, [.r8 .b], ⟨.depends, .reset, .reset, .depends⟩, [8]⟩
  | .sraC => some ⟨0x29, true, .sra, .cb, [.r8 .c], ⟨.depends, .reset, .reset, .depends⟩, [8]⟩
  | .sraD => some ⟨0x2A, true, .sra, .cb, [.r8 .d], ⟨.depends, .reset, .reset, .depends⟩, [8]⟩
  | .sraE => some ⟨0x2B, true, .sra, .cb, [.r8 .e], ⟨.depends, .reset, .reset, .depends⟩, [8]⟩
  | .sraH => some ⟨0x2C, true, .sra, .cb, [.r8 .h], ⟨.depends, .reset, .reset, .depends⟩, [8]⟩
  | .sraL => some ⟨0x2D, true, .sra, .cb, [.r8 .l], ⟨.depends, .reset, .reset, .depends⟩, [8]⟩
  | .sraAtHl => some ⟨0x2E, true, .sra, .cb, [.r8 .atHl], ⟨.depends, .reset, .reset, .depends⟩, [16]⟩
  | .sraA => some ⟨0x2F, true, .sra, .cb, [.r8 .a], ⟨.depends, .reset, .reset, .depends⟩, [8]⟩
  | .swapB => some ⟨0x30, true, .swap, .cb, [.r8 .b], ⟨.depends, .reset, .reset, .reset⟩, [8]⟩
  | .swapC => some ⟨0x31, true, .swap, .cb, [.r8 .c], ⟨.depends, .reset, .reset, .reset⟩, [8]⟩
  | .swapD => some ⟨0x32, true, .swap, .cb, [.r8 .d], ⟨.depends, .reset, .reset, .reset⟩, [8]⟩
  | .swapE => some ⟨0x33, true, .swap, .cb, [.r8 .e], ⟨.depends, .reset, .reset, .reset⟩, [8]⟩
  | .swapH => some ⟨0x34, true, .swap, .cb, [.r8 .h], ⟨.depends, .reset, .reset, .reset⟩, [8]⟩
  | .swapL => some ⟨0x35, true, .swap, .cb, [.r8 .l], ⟨.depends, .reset, .reset, .reset⟩, [8]⟩
  | .swapAtHl => some ⟨0x36, true, .swap, .cb, [.r8 .atHl], ⟨.depends, .reset, .reset, .reset⟩, [16]⟩
  | .swapA => some ⟨0x37, true, .swap, .cb, [.r8 .a], ⟨.depends, .reset, .reset, .reset⟩, [8]⟩
  | .srlB => some ⟨0x38, true, .srl, .cb, [.r8 .b], ⟨.depends, .reset, .reset, .depends⟩, [8]⟩
  | .srlC => some ⟨0x39, true, .srl, .cb, [.r8 .c], ⟨.depends, .reset, .reset, .depends⟩, [8]⟩
  | .srlD => some ⟨0x3A, true, .srl, .cb, [.r8 .d], ⟨.depends, .reset, .reset, .depends⟩, [8]⟩
  | .srlE => some ⟨0x3B, true, .srl, .cb, [.r8 .e], ⟨.depends, .reset, .reset, .depends⟩, [8]⟩
  | .srlH => some ⟨0x3C, true, .srl, .cb, [.r8 .h], ⟨.depends, .reset, .reset, .depends⟩, [8]⟩
  | .srlL => some ⟨0x3D, true, .srl, .cb, [.r8 .l], ⟨.depends, .reset, .reset, .depends⟩, [8]⟩
  | .srlAtHl => some ⟨0x3E, true, .srl, .cb, [.r8 .atHl], ⟨.depends, .reset, .reset, .depends⟩, [16]⟩
  | .srlA => some ⟨0x3F, true, .srl, .cb, [.r8 .a], ⟨.depends, .reset, .reset, .depends⟩, [8]⟩
  | .bit0B => some ⟨0x40, true, .bit, .cb, [.bit 0, .r8 .b], ⟨.depends, .reset, .set, .unaffected⟩, [8]⟩
  | .bit0C => some ⟨0x41, true, .bit, .cb, [.bit 0, .r8 .c], ⟨.depends, .reset, .set, .unaffected⟩, [8]⟩
  | .bit0D => some ⟨0x42, true, .bit, .cb, [.bit 0, .r8 .d], ⟨.depends, .reset, .set, .unaffected⟩, [8]⟩
  | .bit0E => some ⟨0x43, true, .bit, .cb, [.bit 0, .r8 .e], ⟨.depends, .reset, .set, .unaffected⟩, [8]⟩
  | .bit0H => some ⟨0x44, true, .bit, .cb, [.bit 0, .r8 .h], ⟨.depends, .reset, .set, .unaffected⟩, [8]⟩
  | .bit0L => some ⟨0x45, true, .bit, .cb, [.bit 0, .r8 .l], ⟨.depends, .reset, .set, .unaffected⟩, [8]⟩
  | .bit0AtHl => some ⟨0x46, true, .bit, .cb, [.bit 0, .r8 .atHl], ⟨.depends, .reset, .set, .unaffected⟩, [12]⟩
  | .bit0A => some ⟨0x47, true, .bit, .cb, [.bit 0, .r8 .a], ⟨.depends, .reset, .set, .unaffected⟩, [8]⟩
  | .bit1B => some ⟨0x48, true, .bit, .cb, [.bit 1, .r8 .b], ⟨.depends, .reset, .set, .unaffected⟩, [8]⟩
  | .bit1C => some ⟨0x49, true, .bit, .cb, [.bit 1, .r8 .c], ⟨.depends, .reset, .set, .unaffected⟩, [8]⟩
  | .bit1D => some ⟨0x4A, true, .bit, .cb, [.bit 1, .r8 .d], ⟨.depends, .reset, .set, .unaffected⟩, [8]⟩
  | .bit1E => some ⟨0x4B, true, .bit, .cb, [.bit 1, .r8 .e], ⟨.depends, .reset, .set, .unaffected⟩, [8]⟩
  | .bit1H => some ⟨0x4C, true, .bit, .cb, [.bit 1, .r8 .h], ⟨.depends, .reset, .set, .unaffected⟩, [8]⟩
  | .bit1L => some ⟨0x4D, true, .bit, .cb, [.bit 1, .r8 .l], ⟨.depends, .reset, .set, .unaffected⟩, [8]⟩
  | .bit1AtHl => some ⟨0x4E, true, .bit, .cb, [.bit 1, .r8 .atHl], ⟨.depends, .reset, .set, .unaffected⟩, [12]⟩
  | .bit1A => some ⟨0x4F, true, .bit, .cb, [.bit 1, .r8 .a], ⟨.depends, .reset, .set, .unaffected⟩, [8]⟩
  | .bit2B => some ⟨0x50, true, .bit, .cb, [.bit 2, .r8 .b], ⟨.depends, .reset, .set, .unaffected⟩, [8]⟩
  | .bit2C => some ⟨0x51, true, .bit, .cb, [.bit 2, .r8 .c], ⟨.depends, .reset, .set, .unaffected⟩, [8]⟩
  | .bit2D => some ⟨0x52, true, .bit, .cb, [.bit 2, .r8 .d], ⟨.depends, .reset, .set, .unaffected⟩, [8]⟩
  | .bit2E => some ⟨0x53, true, .bit, .cb, [.bit 2, .r8 .e], ⟨.depends, .reset, .set, .unaffected⟩, [8]⟩
  | .bit2H => some ⟨0x54, true, .bit, .cb, [.bit 2, .r8 .h], ⟨.depends, .reset, .set, .unaffected⟩, [8]⟩
  | .bit2L => some ⟨0x55, true, .bit, .cb, [.bit 2, .r8 .l], ⟨.depends, .reset, .set, .unaffected⟩, [8]⟩
  | .bit2AtHl => some ⟨0x56, true, .bit, .cb, [.bit 2, .r8 .atHl], ⟨.depends, .reset, .set, .unaffected⟩, [12]⟩
  | .bit2A => some ⟨0x57, true, .bit, .cb, [.bit 2, .r8 .a], ⟨.depends, .reset, .set, .unaffected⟩, [8]⟩
  | .bit3B => some ⟨0x58, true, .bit, .cb, [.bit 3, .r8 .b], ⟨.depends, .reset, .set, .unaffected⟩, [8]⟩
  | .bit3C => some ⟨0x59, true, .bit, .cb, [.bit 3, .r8 .c], ⟨.depends, .reset, .set, .unaffected⟩, [8]⟩
  | .bit3D => some ⟨0x5A, true, .bit, .cb, [.bit 3, .r8 .d], ⟨.depends, .reset, .set, .unaffected⟩, [8]⟩
  | .bit3E => some ⟨0x5B, true, .bit, .cb, [.bit 3, .r8 .e], ⟨.depends, .reset, .set, .unaffected⟩, [8]⟩
  | .bit3H => some ⟨0x5C, true, .bit, .cb, [.bit 3, .r8 .h], ⟨.depends, .reset, .set, .unaffected⟩, [8]⟩
  | .bit3L => some ⟨0x5D, true, .bit, .cb, [.bit 3, .r8 .l], ⟨.depends, .reset, .set, .unaffected⟩, [8]⟩
  | .bit3AtHl => some ⟨0x5E, true, .bit, .cb, [.bit 3, .r8 .atHl], ⟨.depends, .reset, .set, .unaffected⟩, [12]⟩
  | .bit3A => some ⟨0x5F, true, .bit, .cb, [.bit 3, .r8 .a], ⟨.depends, .reset, .set, .unaffected⟩, [8]⟩
  | .bit4B => some ⟨0x60, true, .bit, .cb, [.bit 4, .r8 .b], ⟨.depends, .reset, .set, .unaffected⟩, [8]⟩
  | .bit4C => some ⟨0x61, true, .bit, .cb, [.bit 4, .r8 .c], ⟨.depends, .reset, .set, .unaffected⟩, [8]⟩
  | .bit4D => some ⟨0x62, true, .bit, .cb, [.bit 4, .r8 .d], ⟨.depends, .reset, .set, .unaffected⟩, [8]⟩
  | .bit4E => some ⟨0x63, true, .bit, .cb, [.bit 4, .r8 .e], ⟨.depends, .reset, .set, .unaffected⟩, [8]⟩
  | .bit4H => some ⟨0x64, true, .bit, .cb, [.bit 4, .r8 .h], ⟨.depends, .reset, .set, .unaffected⟩, [8]⟩
  | .bit4L => some ⟨0x65, true, .bit, .cb, [.bit 4, .r8 .l], ⟨.depends, .reset, .set, .unaffected⟩, [8]⟩
  | .bit4AtHl => some ⟨0x66, true, .bit, .cb, [.bit 4, .r8 .atHl], ⟨.depends, .reset, .set, .unaffected⟩, [12]⟩
  | .bit4A => some ⟨0x67, true, .bit, .cb, [.bit 4, .r8 .a], ⟨.depends, .reset, .set, .unaffected⟩, [8]⟩
  | .bit5B => some ⟨0x68, true, .bit, .cb, [.bit 5, .r8 .b], ⟨.depends, .reset, .set, .unaffected⟩, [8]⟩
  | .bit5C => some ⟨0x69, true, .bit, .cb, [.bit 5, .r8 .c], ⟨.depends, .reset, .set, .unaffected⟩, [8]⟩
  | .bit5D => some ⟨0x6A, true, .bit, .cb, [.bit 5, .r8 .d], ⟨.depends, .reset, .set, .unaffected⟩, [8]⟩
  | .bit5E => some ⟨0x6B, true, .bit, .cb, [.bit 5, .r8 .e], ⟨.depends, .reset, .set, .unaffected⟩, [8]⟩
  | .bit5H => some ⟨0x6C, true, .bit, .cb, [.bit 5, .r8 .h], ⟨.depends, .reset, .set, .unaffected⟩, [8]⟩
  | .bit5L => some ⟨0x6D, true, .bit, .cb, [.bit 5, .r8 .l], ⟨.depends, .reset, .set, .unaffected⟩, [8]⟩
  | .bit5AtHl => some ⟨0x6E, true, .bit, .cb, [.bit 5, .r8 .atHl], ⟨.depends, .reset, .set, .unaffected⟩, [12]⟩
  | .bit5A => some ⟨0x6F, true, .bit, .cb, [.bit 5, .r8 .a], ⟨.depends, .reset, .set, .unaffected⟩, [8]⟩
  | .bit6B => some ⟨0x70, true, .bit, .cb, [.bit 6, .r8 .b], ⟨.depends, .reset, .set, .unaffected⟩, [8]⟩
  | .bit6C => some ⟨0x71, true, .bit, .cb, [.bit 6, .r8 .c], ⟨.depends, .reset, .set, .unaffected⟩, [8]⟩
  | .bit6D => some ⟨0x72, true, .bit, .cb, [.bit 6, .r8 .d], ⟨.depends, .reset, .set, .unaffected⟩, [8]⟩
  | .bit6E => some ⟨0x73, true, .bit, .cb, [.bit 6, .r8 .e], ⟨.depends, .reset, .set, .unaffected⟩, [8]⟩
  | .bit6H => some ⟨0x74, true, .bit, .cb, [.bit 6, .r8 .h], ⟨.depends, .reset, .set, .unaffected⟩, [8]⟩
  | .bit6L => some ⟨0x75, true, .bit, .cb, [.bit 6, .r8 .l], ⟨.depends, .reset, .set, .unaffected⟩, [8]⟩
  | .bit6AtHl => some ⟨0x76, true, .bit, .cb, [.bit 6, .r8 .atHl], ⟨.depends, .reset, .set, .unaffected⟩, [12]⟩
  | .bit6A => some ⟨0x77, true, .bit, .cb, [.bit 6, .r8 .a], ⟨.depends, .reset, .set, .unaffected⟩, [8]⟩
  | .bit7B => some ⟨0x78, true, .bit, .cb, [.bit 7, .r8 .b], ⟨.depends, .reset, .set, .unaffected⟩, [8]⟩
  | .bit7C => some ⟨0x79, true, .bit, .cb, [.bit 7, .r8 .c], ⟨.depends, .reset, .set, .unaffected⟩, [8]⟩
  | .bit7D => some ⟨0x7A, true, .bit, .cb, [.bit 7, .r8 .d], ⟨.depends, .reset, .set, .unaffected⟩, [8]⟩
  | .bit7E => some ⟨0x7B, true, .bit, .cb, [.bit 7, .r8 .e], ⟨.depends, .reset, .set, .unaffected⟩, [8]⟩
  | .bit7H => some ⟨0x7C, true, .bit, .cb, [.bit 7, .r8 .h], ⟨.depends, .reset, .set, .unaffected⟩, [8]⟩
  | .bit7L => some ⟨0x7D, true, .bit, .cb, [.bit 7, .r8 .l], ⟨.depends, .reset, .set, .unaffected⟩, [8]⟩
  | .bit7AtHl => some ⟨0x7E, true, .bit, .cb, [.bit 7, .r8 .atHl], ⟨.depends, .reset, .set, .unaffected⟩, [12]⟩
  | .bit7A => some ⟨0x7F, true, .bit, .cb, [.bit 7, .r8 .a], ⟨.depends, .reset, .set, .unaffected⟩, [8]⟩
  | .res0B => some ⟨0x80, true, .res, .cb, [.bit 0, .r8 .b], FlagPolicy.none, [8]⟩
  | .res0C => some ⟨0x81, true, .res, .cb, [.bit 0, .r8 .c], FlagPolicy.none, [8]⟩
  | .res0D => some ⟨0x82, true, .res, .cb, [.bit 0, .r8 .d], FlagPolicy.none, [8]⟩
  | .res0E => some ⟨0x83, true, .res, .cb, [.bit 0, .r8 .e], FlagPolicy.none, [8]⟩
  | .res0H => some ⟨0x84, true, .res, .cb, [.bit 0, .r8 .h], FlagPolicy.none, [8]⟩
  | .res0L => some ⟨0x85, true, .res, .cb, [.bit 0, .r8 .l], FlagPolicy.none, [8]⟩
  | .res0AtHl => some ⟨0x86, true, .res, .cb, [.bit 0, .r8 .atHl], FlagPolicy.none, [16]⟩
  | .res0A => some ⟨0x87, true, .res, .cb, [.bit 0, .r8 .a], FlagPolicy.none, [8]⟩
  | .res1B => some ⟨0x88, true, .res, .cb, [.bit 1, .r8 .b], FlagPolicy.none, [8]⟩
  | .res1C => some ⟨0x89, true, .res, .cb, [.bit 1, .r8 .c], FlagPolicy.none, [8]⟩
  | .res1D => some ⟨0x8A, true, .res, .cb, [.bit 1, .r8 .d], FlagPolicy.none, [8]⟩
  | .res1E => some ⟨0x8B, true, .res, .cb, [.bit 1, .r8 .e], FlagPolicy.none, [8]⟩
  | .res1H => some ⟨0x8C, true, .res, .cb, [.bit 1, .r8 .h], FlagPolicy.none, [8]⟩
  | .res1L => some ⟨0x8D, true, .res, .cb, [.bit 1, .r8 .l], FlagPolicy.none, [8]⟩
  | .res1AtHl => some ⟨0x8E, true, .res, .cb, [.bit 1, .r8 .atHl], FlagPolicy.none, [16]⟩
  | .res1A => some ⟨0x8F, true, .res, .cb, [.bit 1, .r8 .a], FlagPolicy.none, [8]⟩
  | .res2B => some ⟨0x90, true, .res, .cb, [.bit 2, .r8 .b], FlagPolicy.none, [8]⟩
  | .res2C => some ⟨0x91, true, .res, .cb, [.bit 2, .r8 .c], FlagPolicy.none, [8]⟩
  | .res2D => some ⟨0x92, true, .res, .cb, [.bit 2, .r8 .d], FlagPolicy.none, [8]⟩
  | .res2E => some ⟨0x93, true, .res, .cb, [.bit 2, .r8 .e], FlagPolicy.none, [8]⟩
  | .res2H => some ⟨0x94, true, .res, .cb, [.bit 2, .r8 .h], FlagPolicy.none, [8]⟩
  | .res2L => some ⟨0x95, true, .res, .cb, [.bit 2, .r8 .l], FlagPolicy.none, [8]⟩
  | .res2AtHl => some ⟨0x96, true, .res, .cb, [.bit 2, .r8 .atHl], FlagPolicy.none, [16]⟩
  | .res2A => some ⟨0x97, true, .res, .cb, [.bit 2, .r8 .a], FlagPolicy.none, [8]⟩
  | .res3B => some ⟨0x98, true, .res, .cb, [.bit 3, .r8 .b], FlagPolicy.none, [8]⟩
  | .res3C => some ⟨0x99, true, .res, .cb, [.bit 3, .r8 .c], FlagPolicy.none, [8]⟩
  | .res3D => some ⟨0x9A, true, .res, .cb, [.bit 3, .r8 .d], FlagPolicy.none, [8]⟩
  | .res3E => some ⟨0x9B, true, .res, .cb, [.bit 3, .r8 .e], FlagPolicy.none, [8]⟩
  | .res3H => some ⟨0x9C, true, .res, .cb, [.bit 3, .r8 .h], FlagPolicy.none, [8]⟩
  | .res3L => some ⟨0x9D, true, .res, .cb, [.bit 3, .r8 .l], FlagPolicy.none, [8]⟩
  | .res3AtHl => some ⟨0x9E, true, .res, .cb, [.bit 3, .r8 .atHl], FlagPolicy.none, [16]⟩
  | .res3A => some ⟨0x9F, true, .res, .cb, [.bit 3, .r8 .a], FlagPolicy.none, [8]⟩
  | .res4B => some ⟨0xA0, true, .res, .cb, [.bit 4, .r8 .b], FlagPolicy.none, [8]⟩
  | .res4C => some ⟨0xA1, true, .res, .cb, [.bit 4, .r8 .c], FlagPolicy.none, [8]⟩
  | .res4D => some ⟨0xA2, true, .res, .cb, [.bit 4, .r8 .d], FlagPolicy.none, [8]⟩
  | .res4E => some ⟨0xA3, true, .res, .cb, [.bit 4, .r8 .e], FlagPolicy.none, [8]⟩
  | .res4H => some ⟨0xA4, true, .res, .cb, [.bit 4, .r8 .h], FlagPolicy.none, [8]⟩
  | .res4L => some ⟨0xA5, true, .res, .cb, [.bit 4, .r8 .l], FlagPolicy.none, [8]⟩
  | .res4AtHl => some ⟨0xA6, true, .res, .cb, [.bit 4, .r8 .atHl], FlagPolicy.none, [16]⟩
  | .res4A => some ⟨0xA7, true, .res, .cb, [.bit 4, .r8 .a], FlagPolicy.none, [8]⟩
  | .res5B => some ⟨0xA8, true, .res, .cb, [.bit 5, .r8 .b], FlagPolicy.none, [8]⟩
  | .res5C => some ⟨0xA9, true, .res, .cb, [.bit 5, .r8 .c], FlagPolicy.none, [8]⟩
  | .res5D => some ⟨0xAA, true, .res, .cb, [.bit 5, .r8 .d], FlagPolicy.none, [8]⟩
  | .res5E => some ⟨0xAB, true, .res, .cb, [.bit 5, .r8 .e], FlagPolicy.none, [8]⟩
  | .res5H => some ⟨0xAC, true, .res, .cb, [.bit 5, .r8 .h], FlagPolicy.none, [8]⟩
  | .res5L => some ⟨0xAD, true, .res, .cb, [.bit 5, .r8 .l], FlagPolicy.none, [8]⟩
  | .res5AtHl => some ⟨0xAE, true, .res, .cb, [.bit 5, .r8 .atHl], FlagPolicy.none, [16]⟩
  | .res5A => some ⟨0xAF, true, .res, .cb, [.bit 5, .r8 .a], FlagPolicy.none, [8]⟩
  | .res6B => some ⟨0xB0, true, .res, .cb, [.bit 6, .r8 .b], FlagPolicy.none, [8]⟩
  | .res6C => some ⟨0xB1, true, .res, .cb, [.bit 6, .r8 .c], FlagPolicy.none, [8]⟩
  | .res6D => some ⟨0xB2, true, .res, .cb, [.bit 6, .r8 .d], FlagPolicy.none, [8]⟩
  | .res6E => some ⟨0xB3, true, .res, .cb, [.bit 6, .r8 .e], FlagPolicy.none, [8]⟩
  | .res6H => some ⟨0xB4, true, .res, .cb, [.bit 6, .r8 .h], FlagPolicy.none, [8]⟩
  | .res6L => some ⟨0xB5, true, .res, .cb, [.bit 6, .r8 .l], FlagPolicy.none, [8]⟩
  | .res6AtHl => some ⟨0xB6, true, .res, .cb, [.bit 6, .r8 .atHl], FlagPolicy.none, [16]⟩
  | .res6A => some ⟨0xB7, true, .res, .cb, [.bit 6, .r8 .a], FlagPolicy.none, [8]⟩
  | .res7B => some ⟨0xB8, true, .res, .cb, [.bit 7, .r8 .b], FlagPolicy.none, [8]⟩
  | .res7C => some ⟨0xB9, true, .res, .cb, [.bit 7, .r8 .c], FlagPolicy.none, [8]⟩
  | .res7D => some ⟨0xBA, true, .res, .cb, [.bit 7, .r8 .d], FlagPolicy.none, [8]⟩
  | .res7E => some ⟨0xBB, true, .res, .cb, [.bit 7, .r8 .e], FlagPolicy.none, [8]⟩
  | .res7H => some ⟨0xBC, true, .res, .cb, [.bit 7, .r8 .h], FlagPolicy.none, [8]⟩
  | .res7L => some ⟨0xBD, true, .res, .cb, [.bit 7, .r8 .l], FlagPolicy.none, [8]⟩
  | .res7AtHl => some ⟨0xBE, true, .res, .cb, [.bit 7, .r8 .atHl], FlagPolicy.none, [16]⟩
  | .res7A => some ⟨0xBF, true, .res, .cb, [.bit 7, .r8 .a], FlagPolicy.none, [8]⟩
  | .set0B => some ⟨0xC0, true, .set, .cb, [.bit 0, .r8 .b], FlagPolicy.none, [8]⟩
  | .set0C => some ⟨0xC1, true, .set, .cb, [.bit 0, .r8 .c], FlagPolicy.none, [8]⟩
  | .set0D => some ⟨0xC2, true, .set, .cb, [.bit 0, .r8 .d], FlagPolicy.none, [8]⟩
  | .set0E => some ⟨0xC3, true, .set, .cb, [.bit 0, .r8 .e], FlagPolicy.none, [8]⟩
  | .set0H => some ⟨0xC4, true, .set, .cb, [.bit 0, .r8 .h], FlagPolicy.none, [8]⟩
  | .set0L => some ⟨0xC5, true, .set, .cb, [.bit 0, .r8 .l], FlagPolicy.none, [8]⟩
  | .set0AtHl => some ⟨0xC6, true, .set, .cb, [.bit 0, .r8 .atHl], FlagPolicy.none, [16]⟩
  | .set0A => some ⟨0xC7, true, .set, .cb, [.bit 0, .r8 .a], FlagPolicy.none, [8]⟩
  | .set1B => some ⟨0xC8, true, .set, .cb, [.bit 1, .r8 .b], FlagPolicy.none, [8]⟩
  | .set1C => some ⟨0xC9, true, .set, .cb, [.bit 1, .r8 .c], FlagPolicy.none, [8]⟩
  | .set1D => some ⟨0xCA, true, .set, .cb, [.bit 1, .r8 .d], FlagPolicy.none, [8]⟩
  | .set1E => some ⟨0xCB, true, .set, .cb, [.bit 1, .r8 .e], FlagPolicy.none, [8]⟩
  | .set1H => some ⟨0xCC, true, .set, .cb, [.bit 1, .r8 .h], FlagPolicy.none, [8]⟩
  | .set1L => some ⟨0xCD, true, .set, .cb, [.bit 1, .r8 .l], FlagPolicy.none, [8]⟩
  | .set1AtHl => some ⟨0xCE, true, .set, .cb, [.bit 1, .r8 .atHl], FlagPolicy.none, [16]⟩
  | .set1A => some ⟨0xCF, true, .set, .cb, [.bit 1, .r8 .a], FlagPolicy.none, [8]⟩
  | .set2B => some ⟨0xD0, true, .set, .cb, [.bit 2, .r8 .b], FlagPolicy.none, [8]⟩
  | .set2C => some ⟨0xD1, true, .set, .cb, [.bit 2, .r8 .c], FlagPolicy.none, [8]⟩
  | .set2D => some ⟨0xD2, true, .set, .cb, [.bit 2, .r8 .d], FlagPolicy.none, [8]⟩
  | .set2E => some ⟨0xD3, true, .set, .cb, [.bit 2, .r8 .e], FlagPolicy.none, [8]⟩
  | .set2H => some ⟨0xD4, true, .set, .cb, [.bit 2, .r8 .h], FlagPolicy.none, [8]⟩
  | .set2L => some ⟨0xD5, true, .set, .cb, [.bit 2, .r8 .l], FlagPolicy.none, [8]⟩
  | .set2AtHl => some ⟨0xD6, true, .set, .cb, [.bit 2, .r8 .atHl], FlagPolicy.none, [16]⟩
  | .set2A => some ⟨0xD7, true, .set, .cb, [.bit 2, .r8 .a], FlagPolicy.none, [8]⟩
  | .set3B => some ⟨0xD8, true, .set, .cb, [.bit 3, .r8 .b], FlagPolicy.none, [8]⟩
  | .set3C => some ⟨0xD9, true, .set, .cb, [.bit 3, .r8 .c], FlagPolicy.none, [8]⟩
  | .set3D => some ⟨0xDA, true, .set, .cb, [.bit 3, .r8 .d], FlagPolicy.none, [8]⟩
  | .set3E => some ⟨0xDB, true, .set, .cb, [.bit 3, .r8 .e], FlagPolicy.none, [8]⟩
  | .set3H => some ⟨0xDC, true, .set, .cb, [.bit 3, .r8 .h], FlagPolicy.none, [8]⟩
  | .set3L => some ⟨0xDD, true, .set, .cb, [.bit 3, .r8 .l], FlagPolicy.none, [8]⟩
  | .set3AtHl => some ⟨0xDE, true, .set, .cb, [.bit 3, .r8 .atHl], FlagPolicy.none, [16]⟩
  | .set3A => some ⟨0xDF, true, .set, .cb, [.bit 3, .r8 .a], FlagPolicy.none, [8]⟩
  | .set4B => some ⟨0xE0, true, .set, .cb, [.bit 4, .r8 .b], FlagPolicy.none, [8]⟩
  | .set4C => some ⟨0xE1, true, .set, .cb, [.bit 4, .r8 .c], FlagPolicy.none, [8]⟩
  | .set4D => some ⟨0xE2, true, .set, .cb, [.bit 4, .r8 .d], FlagPolicy.none, [8]⟩
  | .set4E => some ⟨0xE3, true, .set, .cb, [.bit 4, .r8 .e], FlagPolicy.none, [8]⟩
  | .set4H => some ⟨0xE4, true, .set, .cb, [.bit 4, .r8 .h], FlagPolicy.none, [8]⟩
  | .set4L => some ⟨0xE5, true, .set, .cb, [.bit 4, .r8 .l], FlagPolicy.none, [8]⟩
  | .set4AtHl => some ⟨0xE6, true, .set, .cb, [.bit 4, .r8 .atHl], FlagPolicy.none, [16]⟩
  | .set4A => some ⟨0xE7, true, .set, .cb, [.bit 4, .r8 .a], FlagPolicy.none, [8]⟩
  | .set5B => some ⟨0xE8, true, .set, .cb, [.bit 5, .r8 .b], FlagPolicy.none, [8]⟩
  | .set5C => some ⟨0xE9, true, .set, .cb, [.bit 5, .r8 .c], FlagPolicy.none, [8]⟩
  | .set5D => some ⟨0xEA, true, .set, .cb, [.bit 5, .r8 .d], FlagPolicy.none, [8]⟩
  | .set5E => some ⟨0xEB, true, .set, .cb, [.bit 5, .r8 .e], FlagPolicy.none, [8]⟩
  | .set5H => some ⟨0xEC, true, .set, .cb, [.bit 5, .r8 .h], FlagPolicy.none, [8]⟩
  | .set5L => some ⟨0xED, true, .set, .cb, [.bit 5, .r8 .l], FlagPolicy.none, [8]⟩
  | .set5AtHl => some ⟨0xEE, true, .set, .cb, [.bit 5, .r8 .atHl], FlagPolicy.none, [16]⟩
  | .set5A => some ⟨0xEF, true, .set, .cb, [.bit 5, .r8 .a], FlagPolicy.none, [8]⟩
  | .set6B => some ⟨0xF0, true, .set, .cb, [.bit 6, .r8 .b], FlagPolicy.none, [8]⟩
  | .set6C => some ⟨0xF1, true, .set, .cb, [.bit 6, .r8 .c], FlagPolicy.none, [8]⟩
  | .set6D => some ⟨0xF2, true, .set, .cb, [.bit 6, .r8 .d], FlagPolicy.none, [8]⟩
  | .set6E => some ⟨0xF3, true, .set, .cb, [.bit 6, .r8 .e], FlagPolicy.none, [8]⟩
  | .set6H => some ⟨0xF4, true, .set, .cb, [.bit 6, .r8 .h], FlagPolicy.none, [8]⟩
  | .set6L => some ⟨0xF5, true, .set, .cb, [.bit 6, .r8 .l], FlagPolicy.none, [8]⟩
  | .set6AtHl => some ⟨0xF6, true, .set, .cb, [.bit 6, .r8 .atHl], FlagPolicy.none, [16]⟩
  | .set6A => some ⟨0xF7, true, .set, .cb, [.bit 6, .r8 .a], FlagPolicy.none, [8]⟩
  | .set7B => some ⟨0xF8, true, .set, .cb, [.bit 7, .r8 .b], FlagPolicy.none, [8]⟩
  | .set7C => some ⟨0xF9, true, .set, .cb, [.bit 7, .r8 .c], FlagPolicy.none, [8]⟩
  | .set7D => some ⟨0xFA, true, .set, .cb, [.bit 7, .r8 .d], FlagPolicy.none, [8]⟩
  | .set7E => some ⟨0xFB, true, .set, .cb, [.bit 7, .r8 .e], FlagPolicy.none, [8]⟩
  | .set7H => some ⟨0xFC, true, .set, .cb, [.bit 7, .r8 .h], FlagPolicy.none, [8]⟩
  | .set7L => some ⟨0xFD, true, .set, .cb, [.bit 7, .r8 .l], FlagPolicy.none, [8]⟩
  | .set7AtHl => some ⟨0xFE, true, .set, .cb, [.bit 7, .r8 .atHl], FlagPolicy.none, [16]⟩
  | .set7A => some ⟨0xFF, true, .set, .cb, [.bit 7, .r8 .a], FlagPolicy.none, [8]⟩

/-- `lookup(opcode, prefixed)` (R133). -/
def lookup (opcode : Byte) (prefixed : Bool) : Option Descriptor :=
  if prefixed then (decodePrefixed opcode).descriptor else (decodePrimary opcode 0 0).descriptor

/-- The mnemonics the CORE profile executes (R3, R136). -/
def coreMnemonics : List Mnemonic :=
  [.nop, .add, .sub, .sbc, .inc, .dec, .cp, .cpl, .and, .or, .xor, .jp, .jr, .call, .ret, .reti, .push, .pop, .rst, .ld,
   .ldh, .di, .stop, .ccf]

/-- Whether a profile implements the described instruction (R136): FULL implements every one. -/
def Descriptor.implemented (d : Descriptor) (p : Profile) : Bool :=
  match p with
  | .full => true
  | .core => coreMnemonics.contains d.mnemonic

/-- The role of an operand (R131). `constant` is the model's name for a bit number or an RST target, which the opcode itself holds. -/
inductive OperandRole where
  | register
  | immediate
  | address
  | condition
  | constant
deriving DecidableEq, Repr

/-- The addressing modes of R131. -/
inductive AddressingMode where
  | registerDirect
  | registerIndirect
  | immediate
  | addressImmediate
  | signedImmediate
  | indirectPostIncrement
  | indirectPostDecrement
deriving DecidableEq, Repr

/-- An OperandDescriptor (R131). `size` counts the operand's bytes in the instruction stream and `offset` is the place of the first of them; both are 0 for an operand that the opcode itself holds. -/
structure OperandDescriptor where
  role : OperandRole
  mode : Option AddressingMode
  size : Nat
  offset : Nat
deriving DecidableEq, Repr

/-- The operand record of an operand, with the addressing modes as R131 maps them. -/
def Operand.describe (o : Operand) : OperandDescriptor :=
  match o with
  | .r8 .atHl => ⟨.register, some .registerIndirect, 0, 0⟩
  | .r8 _ => ⟨.register, some .registerDirect, 0, 0⟩
  | .r16 _ => ⟨.register, some .registerDirect, 0, 0⟩
  | .af => ⟨.register, some .registerDirect, 0, 0⟩
  | .atBc => ⟨.register, some .registerIndirect, 0, 0⟩
  | .atDe => ⟨.register, some .registerIndirect, 0, 0⟩
  | .atHlInc => ⟨.register, some .indirectPostIncrement, 0, 0⟩
  | .atHlDec => ⟨.register, some .indirectPostDecrement, 0, 0⟩
  | .atC => ⟨.register, some .registerIndirect, 0, 0⟩
  | .n8 => ⟨.immediate, some .immediate, 1, 1⟩
  | .n16 => ⟨.immediate, some .immediate, 2, 1⟩
  | .e8 => ⟨.immediate, some .signedImmediate, 1, 1⟩
  | .a16 => ⟨.address, some .addressImmediate, 2, 1⟩
  | .atA8 => ⟨.address, some .addressImmediate, 1, 1⟩
  | .atA16 => ⟨.address, some .addressImmediate, 2, 1⟩
  | .cc _ => ⟨.condition, none, 0, 0⟩
  | .bit _ => ⟨.constant, none, 0, 0⟩
  | .vector _ => ⟨.constant, none, 0, 0⟩

end Sys2Proof
end

