-- ==== Sys2Proof/Machine/Flags.lean ====
section
/-! DEFINITION. The flags register (10_state.md R22, R23) and every result and flag computation of the spec: add8, sub8, the logical operations, addSPe8, the 16-bit add, DAA, and the shifts. -/

namespace Sys2Proof.Machine

/-- The flags byte of four flags (R22): Z in bit 7, N in bit 6, H in bit 5, C in bit 4, the low nibble zero. -/
def packFlags (z n h c : Bool) : Byte :=
  (if z then 0x80 else 0) ||| (if n then 0x40 else 0) ||| (if h then 0x20 else 0) ||| (if c then 0x10 else 0)

/-- Flag Z, bit 7 of F (R22). -/
def State.flagZ (s : State) : Bool := s.f.getLsbD 7

/-- Flag N, bit 6 of F (R22). -/
def State.flagN (s : State) : Bool := s.f.getLsbD 6

/-- Flag H, bit 5 of F (R22). -/
def State.flagH (s : State) : Bool := s.f.getLsbD 5

/-- Flag C, bit 4 of F (R22). -/
def State.flagC (s : State) : Bool := s.f.getLsbD 4

/-- Write the flags that are given and leave the others (R23, R132); bits 3 to 0 stay zero (R22). -/
def State.setFlags (s : State) (z n h c : Option Bool) : State :=
  { s with f := packFlags (z.getD s.flagZ) (n.getD s.flagN) (h.getD s.flagH) (c.getD s.flagC) }

/-- Write a whole byte to F, which reaches it through AF only: the low nibble is discarded (R22, R25). -/
def State.setF (s : State) (v : Byte) : State := { s with f := v &&& 0xF0 }

/-- A result byte with the flags it gives. -/
structure Alu8 where
  res : Byte
  z : Bool
  h : Bool
  c : Bool
deriving DecidableEq, Repr

/-- `add8(a, b, cin)` (R151). -/
def add8 (a b : Byte) (cin : Bool) : Alu8 :=
  let res := BitVec.ofNat 8 (a.toNat + b.toNat + cin.toNat)
  { res := res
    z := decide (res = 0)
    h := decide (a.toNat % 16 + b.toNat % 16 + cin.toNat > 0xF)
    c := decide (a.toNat + b.toNat + cin.toNat > 0xFF) }

/-- `sub8(a, b, cin)` (R152). -/
def sub8 (a b : Byte) (cin : Bool) : Alu8 :=
  let res := a - b - BitVec.ofNat 8 cin.toNat
  { res := res
    z := decide (res = 0)
    h := decide (a.toNat % 16 < b.toNat % 16 + cin.toNat)
    c := decide (a.toNat < b.toNat + cin.toNat) }

/-- The three logical operations (R153). -/
inductive LogicOp where
  | and
  | xor
  | or
deriving DecidableEq, Repr

/-- `A op v` with its flags; H is 1 for AND only, C is 0 (R153). -/
def logic8 (op : LogicOp) (a v : Byte) : Alu8 :=
  let res := match op with
    | .and => a &&& v
    | .xor => a ^^^ v
    | .or => a ||| v
  { res := res, z := decide (res = 0), h := decide (op = .and), c := false }

/-- A 16-bit result with the two carries it gives. -/
structure Alu16 where
  res : Word
  h : Bool
  c : Bool
deriving DecidableEq, Repr

/-- The 16-bit add into HL (R190): carries out of bit 11 and bit 15. -/
def add16 (a b : Word) : Alu16 :=
  { res := a + b
    h := decide (a.toNat % 0x1000 + b.toNat % 0x1000 > 0x0FFF)
    c := decide (a.toNat + b.toNat > 0xFFFF) }

/-- `addSPe8(sp, e8)` (R191): a signed sum, with the carries of the unsigned low bytes. -/
def addSpE8 (sp : Word) (e8 : Byte) : Alu16 :=
  { res := sp + sext16 e8
    h := decide (sp.toNat % 16 + e8.toNat % 16 > 0x0F)
    c := decide (sp.toNat % 256 + e8.toNat > 0xFF) }

/-- The adjustment and the carry of DAA after an addition (R186). -/
def daaAdd (a : Byte) (h c : Bool) : Byte × Bool :=
  let high := c || decide (a.toNat > 0x99)
  let low := h || decide (a.toNat % 16 > 0x09)
  (a + ((if high then 0x60 else 0) ||| (if low then 0x06 else 0)), high)

/-- The adjustment and the carry of DAA after a subtraction (R186). -/
def daaSub (a : Byte) (h c : Bool) : Byte × Bool :=
  (a - ((if c then 0x60 else 0) ||| (if h then 0x06 else 0)), c)

/-- DAA (R186): the adjusted byte and the carry, chosen by N. -/
def daa8 (a : Byte) (n h c : Bool) : Byte × Bool :=
  if n then daaSub a h c else daaAdd a h c

/-- A byte with one flag in bit 0. -/
def bit0 (c : Bool) : Byte := if c then 0x01 else 0x00

/-- A byte with one flag in bit 7. -/
def bit7 (c : Bool) : Byte := if c then 0x80 else 0x00

/-- The rotates and shifts (R280 to R283, R285 to R292): the result and the carry, given the old carry. -/
def shift8 (op : ShiftOp) (v : Byte) (cin : Bool) : Byte × Bool :=
  match op with
  | .rlc => ((v <<< 1) ||| bit0 (v.getLsbD 7), v.getLsbD 7)
  | .rrc => ((v >>> 1) ||| bit7 (v.getLsbD 0), v.getLsbD 0)
  | .rl => ((v <<< 1) ||| bit0 cin, v.getLsbD 7)
  | .rr => ((v >>> 1) ||| bit7 cin, v.getLsbD 0)
  | .sla => (v <<< 1, v.getLsbD 7)
  | .sra => ((v >>> 1) ||| (v &&& 0x80), v.getLsbD 0)
  | .swap => ((v <<< 4) ||| (v >>> 4), false)
  | .srl => (v >>> 1, v.getLsbD 0)

/-- The byte whose only set bit is bit `b`. -/
def bitMask (b : Nat) : Byte := 0x01 <<< b

end Sys2Proof.Machine
end

