-- ==== Sys2Proof/Machine/Operands.lean ====
section
/-! DEFINITION. Reading and writing every operand form (30_encoding.md R122 to R130, 10_state.md R24 to R26): 8-bit registers and (HL), pairs, 16-bit registers, conditions, and the memory operands with their addresses. -/

namespace Sys2Proof.Machine

/-- AF as a word, A high (R24). -/
def State.af (s : State) : Word := wordOf s.f s.a

/-- BC as a word, B high (R24). -/
def State.bc (s : State) : Word := wordOf s.c s.b

/-- DE as a word, D high (R24). -/
def State.de (s : State) : Word := wordOf s.e s.d

/-- HL as a word, H high (R24). -/
def State.hl (s : State) : Word := wordOf s.l s.h

/-- Write BC (R25). -/
def State.setBc (s : State) (v : Word) : State := { s with b := hiByte v, c := loByte v }

/-- Write DE (R25). -/
def State.setDe (s : State) (v : Word) : State := { s with d := hiByte v, e := loByte v }

/-- Write HL (R25). -/
def State.setHl (s : State) (v : Word) : State := { s with h := hiByte v, l := loByte v }

/-- Write AF: the low nibble of F is discarded (R22, R25). -/
def State.setAf (s : State) (v : Word) : State := { s with a := hiByte v }.setF (loByte v)

/-- `val(r)` and `get(r)` (R150, R284): a register, or the byte at HL. -/
def State.get8 (s : State) (r : R8) : Byte :=
  match r with
  | .b => s.b
  | .c => s.c
  | .d => s.d
  | .e => s.e
  | .h => s.h
  | .l => s.l
  | .atHl => s.read8 s.hl
  | .a => s.a

/-- Write an 8-bit operand (R150, R284): a register, or the byte at HL with every side effect of the bus. -/
def State.put8 (s : State) (r : R8) (v : Byte) : State :=
  match r with
  | .b => { s with b := v }
  | .c => { s with c := v }
  | .d => { s with d := v }
  | .e => { s with e := v }
  | .h => { s with h := v }
  | .l => { s with l := v }
  | .atHl => s.write8 s.hl v
  | .a => { s with a := v }

/-- Read a 16-bit register (R123). -/
def State.get16 (s : State) (r : R16) : Word :=
  match r with
  | .bc => s.bc
  | .de => s.de
  | .hl => s.hl
  | .sp => s.sp

/-- Write a 16-bit register (R123, R25). -/
def State.put16 (s : State) (r : R16) (v : Word) : State :=
  match r with
  | .bc => s.setBc v
  | .de => s.setDe v
  | .hl => s.setHl v
  | .sp => { s with sp := v }

/-- Read a pair of PUSH (R123). -/
def State.getPair (s : State) (q : Pair) : Word :=
  match q with
  | .bc => s.bc
  | .de => s.de
  | .hl => s.hl
  | .af => s.af

/-- Write a pair of POP (R123, R25). -/
def State.putPair (s : State) (q : Pair) (v : Word) : State :=
  match q with
  | .bc => s.setBc v
  | .de => s.setDe v
  | .hl => s.setHl v
  | .af => s.setAf v

/-- `cond(cc)` (R200). -/
def State.cond (s : State) (cc : Cond) : Bool :=
  match cc with
  | .nz => !s.flagZ
  | .z => s.flagZ
  | .nc => !s.flagC
  | .c => s.flagC

/-- The high-page address `0xFF00 + a8` (R130). -/
def highPage (a8 : Byte) : Word := wordOf a8 0xFF

/-- The memory operands of the loads and stores of A (44_load.md, effective addresses). -/
inductive MemOperand where
  | atBc
  | atDe
  | atHlInc
  | atHlDec
  | atC
  | atA8 (a8 : Byte)
  | atA16 (a16 : Word)
deriving DecidableEq, Repr

/-- The effective address of a memory operand. -/
def State.address (s : State) (m : MemOperand) : Word :=
  match m with
  | .atBc => s.bc
  | .atDe => s.de
  | .atHlInc => s.hl
  | .atHlDec => s.hl
  | .atC => highPage s.c
  | .atA8 a8 => highPage a8
  | .atA16 a16 => a16

/-- What a memory operand does to HL after the access (R26, R239 to R242). -/
def State.afterAccess (s : State) (m : MemOperand) : State :=
  match m with
  | .atHlInc => s.setHl (s.hl + 1)
  | .atHlDec => s.setHl (s.hl - 1)
  | .atBc => s
  | .atDe => s
  | .atC => s
  | .atA8 _ => s
  | .atA16 _ => s

/-- The operand that a 3-bit field `r` names (R122). -/
def R8.ofCode (r : BitVec 3) : R8 :=
  match r.toNat with
  | 0 => .b
  | 1 => .c
  | 2 => .d
  | 3 => .e
  | 4 => .h
  | 5 => .l
  | 6 => .atHl
  | _ => .a

/-- The operation that `op2[5:3]` names in group 0 of the prefixed table (R126). -/
def ShiftOp.ofCode (g : BitVec 3) : ShiftOp :=
  match g.toNat with
  | 0 => .rlc
  | 1 => .rrc
  | 2 => .rl
  | 3 => .rr
  | 4 => .sla
  | 5 => .sra
  | 6 => .swap
  | _ => .srl

end Sys2Proof.Machine
end

