-- ==== Sys2Proof/Machine/Ops.lean ====
section
/-! DEFINITION. The operations every instruction shares: fetching, taking a fault (60_exceptions.md R304), the frame of a step around an instruction's rule (30_encoding.md R137), and the stack (43_stack.md R220, R221). No instruction returns from a fault (R305), so there is no operation for it. -/

namespace Sys2Proof.Machine

/-- The instruction at PC (R137): its bytes are at PC, PC + 1 and PC + 2 with wrap, all read before it stores (R139). A byte past the instruction's length is not looked at, and reading one has no effect (R68). -/
def State.fetchInstr (s : State) : Instr :=
  decodeBytes (s.read8 s.pc) (s.read8 (s.pc + 1)) (s.read8 (s.pc + 2))

/-- Fault entry (R304): the fault is recorded and nothing else is written; PC keeps the address of the instruction's first byte. -/
def State.raise (s : State) (f : Fault) : State := { s with fault := some f }

/-- The start of an instruction that executes (R137): its descriptor becomes `lastDecoded`, and PC moves past it (R138). -/
def State.start (s : State) (d : Descriptor) : State :=
  { s with lastDecoded := some d, pc := s.pc + BitVec.ofNat 16 d.length }

/-- One instruction in the frame of R137: an opcode with no descriptor raises IllegalOpcode (R301), one outside the profile raises UnsupportedOpcode (R302), and any other performs its rule `effect` with PC past the instruction. -/
def perform (i : Instr) (effect : State → State) (s : State) : Host.Outcome State Fault Refusal :=
  match i.descriptor with
  | none => .next (s.raise (.illegalOpcode ⟨s.pc, encode i, false⟩))
  | some d =>
    if d.implemented s.cfg.profile then .next (effect (s.start d))
    else .next (s.raise (.unsupportedOpcode ⟨s.pc, d.opcodeBytes, d.prefixed⟩))

/-- `push16(v)` (R220): SP falls by 2, then the word is stored at the new SP. -/
def State.push16 (s : State) (v : Word) : State :=
  { s with sp := s.sp - 2 }.write16 (s.sp - 2) v

/-- The word that `pop16()` returns (R221). -/
def State.top16 (s : State) : Word := s.read16 s.sp

/-- What `pop16()` does to SP (R221). -/
def State.drop16 (s : State) : State := { s with sp := s.sp + 2 }

/-- A jump: `PC <- target`. -/
def State.jump (s : State) (target : Word) : State := { s with pc := target }

/-- The image of a core that had none, for placing an instruction: 32 KiB of 0x00 on the controller without banking (log entry 7). -/
def Cart.blank : Cart := .noBanking ⟨[], 0x8000⟩

/-- An image with one byte replaced, long enough to hold it. -/
def Rom.place (rom : Rom) (o : Nat) (v : Byte) : Rom := ⟨rom.cells.write o v, max rom.len (o + 1)⟩

/-- A cartridge whose ROM window shows `v` at address `a`, nothing else of it changed. -/
def Cart.placeRom (cart : Cart) (a : Word) (v : Byte) : Cart :=
  match cart with
  | .absent => .absent
  | .noBanking rom => .noBanking (rom.place a.toNat v)
  | .bankSwitching rom m => .bankSwitching (rom.place (m.romOffset a) v) m

/-- Put a byte where a fetch at address `a` reads it: in the image or in an array, without any side effect of a store. -/
def State.placeByte (s : State) (a : Word) (v : Byte) : State :=
  match locate a with
  | .rom => { s with cart := s.cart.placeRom a v }
  | .array st i => s.poke st i v
  | .extRam => s
  | .unusable => s

/-- Whether an address leads to the image or to an array. -/
def placeable (a : Word) : Bool :=
  match locate a with
  | .rom => true
  | .array _ _ => true
  | .extRam => false
  | .unusable => false

/-- A state whose next step fetches: a cartridge is there, no fault is recorded, the core runs, and the three bytes at PC can be placed; each is changed only where it is otherwise. -/
def State.readyToFetch (s : State) : State :=
  { s with
    cart := if s.cart = .absent then Cart.blank else s.cart
    fault := none
    run := .running
    pc := if placeable s.pc && placeable (s.pc + 1) && placeable (s.pc + 2) then s.pc else 0x0100 }

/-- Put three bytes at PC. -/
def State.placeAtPc (s : State) (b0 b1 b2 : Byte) : State :=
  ((s.placeByte s.pc b0).placeByte (s.pc + 1) b1).placeByte (s.pc + 2) b2

end Sys2Proof.Machine
end

