-- ==== Sys2Proof/Machine/Alu16.lean ====
section
/-! DEFINITION. 16-bit arithmetic (41_alu16.md R190 to R194): the shared rules, then one meaning per instruction. -/

namespace Sys2Proof.Machine

/-- ADD HL,dd: flags - 0 H C (R190). -/
def State.addHl (s : State) (r : R16) : State :=
  (s.setHl (add16 s.hl (s.get16 r)).res).setFlags none (some false) (some (add16 s.hl (s.get16 r)).h) (some (add16 s.hl (s.get16 r)).c)

/-- ADD SP,e8: flags 0 0 H C (R192). -/
def State.addToSp (s : State) (e8 : Byte) : State :=
  { s with sp := (addSpE8 s.sp e8).res }.setFlags (some false) (some false) (some (addSpE8 s.sp e8).h) (some (addSpE8 s.sp e8).c)

/-- INC dd (R193, R26): no flag. -/
def State.inc16 (s : State) (r : R16) : State := s.put16 r (s.get16 r + 1)

/-- DEC dd (R194, R26): no flag. -/
def State.dec16 (s : State) (r : R16) : State := s.put16 r (s.get16 r - 1)

/-- INC BC (R193). -/
def execIncBc (s : State) : Host.Outcome State Fault Refusal :=
  perform .incBc (fun t => t.inc16 .bc) s

/-- ADD HL,BC (R190). -/
def execAddHlBc (s : State) : Host.Outcome State Fault Refusal :=
  perform .addHlBc (fun t => t.addHl .bc) s

/-- DEC BC (R194). -/
def execDecBc (s : State) : Host.Outcome State Fault Refusal :=
  perform .decBc (fun t => t.dec16 .bc) s

/-- INC DE (R193). -/
def execIncDe (s : State) : Host.Outcome State Fault Refusal :=
  perform .incDe (fun t => t.inc16 .de) s

/-- ADD HL,DE (R190). -/
def execAddHlDe (s : State) : Host.Outcome State Fault Refusal :=
  perform .addHlDe (fun t => t.addHl .de) s

/-- DEC DE (R194). -/
def execDecDe (s : State) : Host.Outcome State Fault Refusal :=
  perform .decDe (fun t => t.dec16 .de) s

/-- INC HL (R193). -/
def execIncHl (s : State) : Host.Outcome State Fault Refusal :=
  perform .incHl (fun t => t.inc16 .hl) s

/-- ADD HL,HL (R190). -/
def execAddHlHl (s : State) : Host.Outcome State Fault Refusal :=
  perform .addHlHl (fun t => t.addHl .hl) s

/-- DEC HL (R194). -/
def execDecHl (s : State) : Host.Outcome State Fault Refusal :=
  perform .decHl (fun t => t.dec16 .hl) s

/-- INC SP (R193). -/
def execIncSp (s : State) : Host.Outcome State Fault Refusal :=
  perform .incSp (fun t => t.inc16 .sp) s

/-- ADD HL,SP (R190). -/
def execAddHlSp (s : State) : Host.Outcome State Fault Refusal :=
  perform .addHlSp (fun t => t.addHl .sp) s

/-- DEC SP (R194). -/
def execDecSp (s : State) : Host.Outcome State Fault Refusal :=
  perform .decSp (fun t => t.dec16 .sp) s

/-- ADD SP,e8 (R192). -/
def execAddSpE8 (e8 : Byte) (s : State) : Host.Outcome State Fault Refusal :=
  perform (.addSpE8 e8) (fun t => t.addToSp e8) s

end Sys2Proof.Machine
end

