-- ==== Sys2Proof/Machine/Alu8.lean ====
section
/-! DEFINITION. 8-bit arithmetic and logic (40_alu8.md R155 to R186): the shared rules, then one meaning per instruction. -/

namespace Sys2Proof.Machine

/-- ADD and ADC: A becomes `add8 A v cin`, flags Z 0 H C (R155 to R160). -/
def State.addA (s : State) (v : Byte) (cin : Bool) : State :=
  { s with a := (add8 s.a v cin).res }.setFlags (some (add8 s.a v cin).z) (some false) (some (add8 s.a v cin).h) (some (add8 s.a v cin).c)

/-- SUB and SBC: A becomes `sub8 A v cin`, flags Z 1 H C (R161 to R166). -/
def State.subA (s : State) (v : Byte) (cin : Bool) : State :=
  { s with a := (sub8 s.a v cin).res }.setFlags (some (sub8 s.a v cin).z) (some true) (some (sub8 s.a v cin).h) (some (sub8 s.a v cin).c)

/-- CP: the flags of SUB, A unchanged (R176 to R178). -/
def State.cpA (s : State) (v : Byte) : State :=
  s.setFlags (some (sub8 s.a v false).z) (some true) (some (sub8 s.a v false).h) (some (sub8 s.a v false).c)

/-- AND, XOR, OR: A becomes `A op v`, N and C cleared, H set by AND only (R167 to R175). -/
def State.logicA (s : State) (op : LogicOp) (v : Byte) : State :=
  { s with a := (logic8 op s.a v).res }.setFlags (some (logic8 op s.a v).z) (some false) (some (logic8 op s.a v).h) (some (logic8 op s.a v).c)

/-- INC of an 8-bit operand, flags Z 0 H and C unchanged (R179, R180). -/
def State.inc8 (s : State) (r : R8) : State :=
  (s.put8 r (add8 (s.get8 r) 1 false).res).setFlags (some (add8 (s.get8 r) 1 false).z) (some false) (some (add8 (s.get8 r) 1 false).h) none

/-- DEC of an 8-bit operand, flags Z 1 H and C unchanged (R181, R182). -/
def State.dec8 (s : State) (r : R8) : State :=
  (s.put8 r (sub8 (s.get8 r) 1 false).res).setFlags (some (sub8 (s.get8 r) 1 false).z) (some true) (some (sub8 (s.get8 r) 1 false).h) none

/-- CPL (R183). -/
def State.complementA (s : State) : State :=
  { s with a := s.a ^^^ 0xFF }.setFlags none (some true) (some true) none

/-- CCF (R184). -/
def State.complementCarry (s : State) : State :=
  s.setFlags none (some false) (some false) (some (!s.flagC))

/-- SCF (R185). -/
def State.setCarry (s : State) : State :=
  s.setFlags none (some false) (some false) (some true)

/-- DAA (R186). -/
def State.decimalAdjust (s : State) : State :=
  let r := daa8 s.a s.flagN s.flagH s.flagC
  { s with a := r.1 }.setFlags (some (decide (r.1 = 0))) none (some false) (some r.2)

/-- INC B (R179). -/
def execIncB (s : State) : Host.Outcome State Fault Refusal :=
  perform .incB (fun t => t.inc8 .b) s

/-- DEC B (R181). -/
def execDecB (s : State) : Host.Outcome State Fault Refusal :=
  perform .decB (fun t => t.dec8 .b) s

/-- INC C (R179). -/
def execIncC (s : State) : Host.Outcome State Fault Refusal :=
  perform .incC (fun t => t.inc8 .c) s

/-- DEC C (R181). -/
def execDecC (s : State) : Host.Outcome State Fault Refusal :=
  perform .decC (fun t => t.dec8 .c) s

/-- INC D (R179). -/
def execIncD (s : State) : Host.Outcome State Fault Refusal :=
  perform .incD (fun t => t.inc8 .d) s

/-- DEC D (R181). -/
def execDecD (s : State) : Host.Outcome State Fault Refusal :=
  perform .decD (fun t => t.dec8 .d) s

/-- INC E (R179). -/
def execIncE (s : State) : Host.Outcome State Fault Refusal :=
  perform .incE (fun t => t.inc8 .e) s

/-- DEC E (R181). -/
def execDecE (s : State) : Host.Outcome State Fault Refusal :=
  perform .decE (fun t => t.dec8 .e) s

/-- INC H (R179). -/
def execIncH (s : State) : Host.Outcome State Fault Refusal :=
  perform .incH (fun t => t.inc8 .h) s

/-- DEC H (R181). -/
def execDecH (s : State) : Host.Outcome State Fault Refusal :=
  perform .decH (fun t => t.dec8 .h) s

/-- DAA (R186). -/
def execDaa (s : State) : Host.Outcome State Fault Refusal :=
  perform .daa (fun t => t.decimalAdjust) s

/-- INC L (R179). -/
def execIncL (s : State) : Host.Outcome State Fault Refusal :=
  perform .incL (fun t => t.inc8 .l) s

/-- DEC L (R181). -/
def execDecL (s : State) : Host.Outcome State Fault Refusal :=
  perform .decL (fun t => t.dec8 .l) s

/-- CPL (R183). -/
def execCpl (s : State) : Host.Outcome State Fault Refusal :=
  perform .cpl (fun t => t.complementA) s

/-- INC (HL) (R180). -/
def execIncAtHl (s : State) : Host.Outcome State Fault Refusal :=
  perform .incAtHl (fun t => t.inc8 .atHl) s

/-- DEC (HL) (R182). -/
def execDecAtHl (s : State) : Host.Outcome State Fault Refusal :=
  perform .decAtHl (fun t => t.dec8 .atHl) s

/-- SCF (R185). -/
def execScf (s : State) : Host.Outcome State Fault Refusal :=
  perform .scf (fun t => t.setCarry) s

/-- INC A (R179). -/
def execIncA (s : State) : Host.Outcome State Fault Refusal :=
  perform .incA (fun t => t.inc8 .a) s

/-- DEC A (R181). -/
def execDecA (s : State) : Host.Outcome State Fault Refusal :=
  perform .decA (fun t => t.dec8 .a) s

/-- CCF (R184). -/
def execCcf (s : State) : Host.Outcome State Fault Refusal :=
  perform .ccf (fun t => t.complementCarry) s

/-- ADD A,B (R155). -/
def execAddAB (s : State) : Host.Outcome State Fault Refusal :=
  perform .addAB (fun t => t.addA (t.get8 .b) false) s

/-- ADD A,C (R155). -/
def execAddAC (s : State) : Host.Outcome State Fault Refusal :=
  perform .addAC (fun t => t.addA (t.get8 .c) false) s

/-- ADD A,D (R155). -/
def execAddAD (s : State) : Host.Outcome State Fault Refusal :=
  perform .addAD (fun t => t.addA (t.get8 .d) false) s

/-- ADD A,E (R155). -/
def execAddAE (s : State) : Host.Outcome State Fault Refusal :=
  perform .addAE (fun t => t.addA (t.get8 .e) false) s

/-- ADD A,H (R155). -/
def execAddAH (s : State) : Host.Outcome State Fault Refusal :=
  perform .addAH (fun t => t.addA (t.get8 .h) false) s

/-- ADD A,L (R155). -/
def execAddAL (s : State) : Host.Outcome State Fault Refusal :=
  perform .addAL (fun t => t.addA (t.get8 .l) false) s

/-- ADD A,(HL) (R156). -/
def execAddAAtHl (s : State) : Host.Outcome State Fault Refusal :=
  perform .addAAtHl (fun t => t.addA (t.get8 .atHl) false) s

/-- ADD A,A (R155). -/
def execAddAA (s : State) : Host.Outcome State Fault Refusal :=
  perform .addAA (fun t => t.addA (t.get8 .a) false) s

/-- ADC A,B (R158). -/
def execAdcAB (s : State) : Host.Outcome State Fault Refusal :=
  perform .adcAB (fun t => t.addA (t.get8 .b) t.flagC) s

/-- ADC A,C (R158). -/
def execAdcAC (s : State) : Host.Outcome State Fault Refusal :=
  perform .adcAC (fun t => t.addA (t.get8 .c) t.flagC) s

/-- ADC A,D (R158). -/
def execAdcAD (s : State) : Host.Outcome State Fault Refusal :=
  perform .adcAD (fun t => t.addA (t.get8 .d) t.flagC) s

/-- ADC A,E (R158). -/
def execAdcAE (s : State) : Host.Outcome State Fault Refusal :=
  perform .adcAE (fun t => t.addA (t.get8 .e) t.flagC) s

/-- ADC A,H (R158). -/
def execAdcAH (s : State) : Host.Outcome State Fault Refusal :=
  perform .adcAH (fun t => t.addA (t.get8 .h) t.flagC) s

/-- ADC A,L (R158). -/
def execAdcAL (s : State) : Host.Outcome State Fault Refusal :=
  perform .adcAL (fun t => t.addA (t.get8 .l) t.flagC) s

/-- ADC A,(HL) (R159). -/
def execAdcAAtHl (s : State) : Host.Outcome State Fault Refusal :=
  perform .adcAAtHl (fun t => t.addA (t.get8 .atHl) t.flagC) s

/-- ADC A,A (R158). -/
def execAdcAA (s : State) : Host.Outcome State Fault Refusal :=
  perform .adcAA (fun t => t.addA (t.get8 .a) t.flagC) s

/-- SUB A,B (R161). -/
def execSubAB (s : State) : Host.Outcome State Fault Refusal :=
  perform .subAB (fun t => t.subA (t.get8 .b) false) s

/-- SUB A,C (R161). -/
def execSubAC (s : State) : Host.Outcome State Fault Refusal :=
  perform .subAC (fun t => t.subA (t.get8 .c) false) s

/-- SUB A,D (R161). -/
def execSubAD (s : State) : Host.Outcome State Fault Refusal :=
  perform .subAD (fun t => t.subA (t.get8 .d) false) s

/-- SUB A,E (R161). -/
def execSubAE (s : State) : Host.Outcome State Fault Refusal :=
  perform .subAE (fun t => t.subA (t.get8 .e) false) s

/-- SUB A,H (R161). -/
def execSubAH (s : State) : Host.Outcome State Fault Refusal :=
  perform .subAH (fun t => t.subA (t.get8 .h) false) s

/-- SUB A,L (R161). -/
def execSubAL (s : State) : Host.Outcome State Fault Refusal :=
  perform .subAL (fun t => t.subA (t.get8 .l) false) s

/-- SUB A,(HL) (R162). -/
def execSubAAtHl (s : State) : Host.Outcome State Fault Refusal :=
  perform .subAAtHl (fun t => t.subA (t.get8 .atHl) false) s

/-- SUB A,A (R161). -/
def execSubAA (s : State) : Host.Outcome State Fault Refusal :=
  perform .subAA (fun t => t.subA (t.get8 .a) false) s

/-- SBC A,B (R164). -/
def execSbcAB (s : State) : Host.Outcome State Fault Refusal :=
  perform .sbcAB (fun t => t.subA (t.get8 .b) t.flagC) s

/-- SBC A,C (R164). -/
def execSbcAC (s : State) : Host.Outcome State Fault Refusal :=
  perform .sbcAC (fun t => t.subA (t.get8 .c) t.flagC) s

/-- SBC A,D (R164). -/
def execSbcAD (s : State) : Host.Outcome State Fault Refusal :=
  perform .sbcAD (fun t => t.subA (t.get8 .d) t.flagC) s

/-- SBC A,E (R164). -/
def execSbcAE (s : State) : Host.Outcome State Fault Refusal :=
  perform .sbcAE (fun t => t.subA (t.get8 .e) t.flagC) s

/-- SBC A,H (R164). -/
def execSbcAH (s : State) : Host.Outcome State Fault Refusal :=
  perform .sbcAH (fun t => t.subA (t.get8 .h) t.flagC) s

/-- SBC A,L (R164). -/
def execSbcAL (s : State) : Host.Outcome State Fault Refusal :=
  perform .sbcAL (fun t => t.subA (t.get8 .l) t.flagC) s

/-- SBC A,(HL) (R165). -/
def execSbcAAtHl (s : State) : Host.Outcome State Fault Refusal :=
  perform .sbcAAtHl (fun t => t.subA (t.get8 .atHl) t.flagC) s

/-- SBC A,A (R164). -/
def execSbcAA (s : State) : Host.Outcome State Fault Refusal :=
  perform .sbcAA (fun t => t.subA (t.get8 .a) t.flagC) s

/-- AND A,B (R167). -/
def execAndAB (s : State) : Host.Outcome State Fault Refusal :=
  perform .andAB (fun t => t.logicA .and (t.get8 .b)) s

/-- AND A,C (R167). -/
def execAndAC (s : State) : Host.Outcome State Fault Refusal :=
  perform .andAC (fun t => t.logicA .and (t.get8 .c)) s

/-- AND A,D (R167). -/
def execAndAD (s : State) : Host.Outcome State Fault Refusal :=
  perform .andAD (fun t => t.logicA .and (t.get8 .d)) s

/-- AND A,E (R167). -/
def execAndAE (s : State) : Host.Outcome State Fault Refusal :=
  perform .andAE (fun t => t.logicA .and (t.get8 .e)) s

/-- AND A,H (R167). -/
def execAndAH (s : State) : Host.Outcome State Fault Refusal :=
  perform .andAH (fun t => t.logicA .and (t.get8 .h)) s

/-- AND A,L (R167). -/
def execAndAL (s : State) : Host.Outcome State Fault Refusal :=
  perform .andAL (fun t => t.logicA .and (t.get8 .l)) s

/-- AND A,(HL) (R168). -/
def execAndAAtHl (s : State) : Host.Outcome State Fault Refusal :=
  perform .andAAtHl (fun t => t.logicA .and (t.get8 .atHl)) s

/-- AND A,A (R167). -/
def execAndAA (s : State) : Host.Outcome State Fault Refusal :=
  perform .andAA (fun t => t.logicA .and (t.get8 .a)) s

/-- XOR A,B (R170). -/
def execXorAB (s : State) : Host.Outcome State Fault Refusal :=
  perform .xorAB (fun t => t.logicA .xor (t.get8 .b)) s

/-- XOR A,C (R170). -/
def execXorAC (s : State) : Host.Outcome State Fault Refusal :=
  perform .xorAC (fun t => t.logicA .xor (t.get8 .c)) s

/-- XOR A,D (R170). -/
def execXorAD (s : State) : Host.Outcome State Fault Refusal :=
  perform .xorAD (fun t => t.logicA .xor (t.get8 .d)) s

/-- XOR A,E (R170). -/
def execXorAE (s : State) : Host.Outcome State Fault Refusal :=
  perform .xorAE (fun t => t.logicA .xor (t.get8 .e)) s

/-- XOR A,H (R170). -/
def execXorAH (s : State) : Host.Outcome State Fault Refusal :=
  perform .xorAH (fun t => t.logicA .xor (t.get8 .h)) s

/-- XOR A,L (R170). -/
def execXorAL (s : State) : Host.Outcome State Fault Refusal :=
  perform .xorAL (fun t => t.logicA .xor (t.get8 .l)) s

/-- XOR A,(HL) (R171). -/
def execXorAAtHl (s : State) : Host.Outcome State Fault Refusal :=
  perform .xorAAtHl (fun t => t.logicA .xor (t.get8 .atHl)) s

/-- XOR A,A (R170). -/
def execXorAA (s : State) : Host.Outcome State Fault Refusal :=
  perform .xorAA (fun t => t.logicA .xor (t.get8 .a)) s

/-- OR A,B (R173). -/
def execOrAB (s : State) : Host.Outcome State Fault Refusal :=
  perform .orAB (fun t => t.logicA .or (t.get8 .b)) s

/-- OR A,C (R173). -/
def execOrAC (s : State) : Host.Outcome State Fault Refusal :=
  perform .orAC (fun t => t.logicA .or (t.get8 .c)) s

/-- OR A,D (R173). -/
def execOrAD (s : State) : Host.Outcome State Fault Refusal :=
  perform .orAD (fun t => t.logicA .or (t.get8 .d)) s

/-- OR A,E (R173). -/
def execOrAE (s : State) : Host.Outcome State Fault Refusal :=
  perform .orAE (fun t => t.logicA .or (t.get8 .e)) s

/-- OR A,H (R173). -/
def execOrAH (s : State) : Host.Outcome State Fault Refusal :=
  perform .orAH (fun t => t.logicA .or (t.get8 .h)) s

/-- OR A,L (R173). -/
def execOrAL (s : State) : Host.Outcome State Fault Refusal :=
  perform .orAL (fun t => t.logicA .or (t.get8 .l)) s

/-- OR A,(HL) (R174). -/
def execOrAAtHl (s : State) : Host.Outcome State Fault Refusal :=
  perform .orAAtHl (fun t => t.logicA .or (t.get8 .atHl)) s

/-- OR A,A (R173). -/
def execOrAA (s : State) : Host.Outcome State Fault Refusal :=
  perform .orAA (fun t => t.logicA .or (t.get8 .a)) s

/-- CP A,B (R176). -/
def execCpAB (s : State) : Host.Outcome State Fault Refusal :=
  perform .cpAB (fun t => t.cpA (t.get8 .b)) s

/-- CP A,C (R176). -/
def execCpAC (s : State) : Host.Outcome State Fault Refusal :=
  perform .cpAC (fun t => t.cpA (t.get8 .c)) s

/-- CP A,D (R176). -/
def execCpAD (s : State) : Host.Outcome State Fault Refusal :=
  perform .cpAD (fun t => t.cpA (t.get8 .d)) s

/-- CP A,E (R176). -/
def execCpAE (s : State) : Host.Outcome State Fault Refusal :=
  perform .cpAE (fun t => t.cpA (t.get8 .e)) s

/-- CP A,H (R176). -/
def execCpAH (s : State) : Host.Outcome State Fault Refusal :=
  perform .cpAH (fun t => t.cpA (t.get8 .h)) s

/-- CP A,L (R176). -/
def execCpAL (s : State) : Host.Outcome State Fault Refusal :=
  perform .cpAL (fun t => t.cpA (t.get8 .l)) s

/-- CP A,(HL) (R177). -/
def execCpAAtHl (s : State) : Host.Outcome State Fault Refusal :=
  perform .cpAAtHl (fun t => t.cpA (t.get8 .atHl)) s

/-- CP A,A (R176). -/
def execCpAA (s : State) : Host.Outcome State Fault Refusal :=
  perform .cpAA (fun t => t.cpA (t.get8 .a)) s

/-- ADD A,n8 (R157). -/
def execAddAN8 (n8 : Byte) (s : State) : Host.Outcome State Fault Refusal :=
  perform (.addAN8 n8) (fun t => t.addA n8 false) s

/-- ADC A,n8 (R160). -/
def execAdcAN8 (n8 : Byte) (s : State) : Host.Outcome State Fault Refusal :=
  perform (.adcAN8 n8) (fun t => t.addA n8 t.flagC) s

/-- SUB A,n8 (R163). -/
def execSubAN8 (n8 : Byte) (s : State) : Host.Outcome State Fault Refusal :=
  perform (.subAN8 n8) (fun t => t.subA n8 false) s

/-- SBC A,n8 (R166). -/
def execSbcAN8 (n8 : Byte) (s : State) : Host.Outcome State Fault Refusal :=
  perform (.sbcAN8 n8) (fun t => t.subA n8 t.flagC) s

/-- AND A,n8 (R169). -/
def execAndAN8 (n8 : Byte) (s : State) : Host.Outcome State Fault Refusal :=
  perform (.andAN8 n8) (fun t => t.logicA .and n8) s

/-- XOR A,n8 (R172). -/
def execXorAN8 (n8 : Byte) (s : State) : Host.Outcome State Fault Refusal :=
  perform (.xorAN8 n8) (fun t => t.logicA .xor n8) s

/-- OR A,n8 (R175). -/
def execOrAN8 (n8 : Byte) (s : State) : Host.Outcome State Fault Refusal :=
  perform (.orAN8 n8) (fun t => t.logicA .or n8) s

/-- CP A,n8 (R178). -/
def execCpAN8 (n8 : Byte) (s : State) : Host.Outcome State Fault Refusal :=
  perform (.cpAN8 n8) (fun t => t.cpA n8) s

end Sys2Proof.Machine
end

