-- ==== Sys2Proof/Machine/Control.lean ====
section
/-! DEFINITION. Control transfer (42_control.md R200 to R211): the shared rules, then one meaning per instruction. In a rule, PC already holds the address after the instruction (R138), which is the base of JR and the return address of CALL and RST. No flag is written. -/

namespace Sys2Proof.Machine

/-- JR: the address after the instruction plus the signed offset (R204). -/
def State.jumpRel (s : State) (e8 : Byte) : State := s.jump (s.pc + sext16 e8)

/-- CALL and RST: push the address after the instruction, go to the target (R206, R211). -/
def State.call (s : State) (target : Word) : State := (s.push16 s.pc).jump target

/-- RET: go to the popped word (R208). -/
def State.ret (s : State) : State := s.drop16.jump s.top16

/-- A rule under a condition (R200): without it, nothing but the move past the instruction. -/
def State.onCond (s : State) (cc : Cond) (rule : State → State) : State :=
  if s.cond cc then rule s else s

/-- RETI: RET, and IME is set (R210). -/
def State.retEnable (s : State) : State := { s.ret with ime := true }

/-- JR e8 (R204). -/
def execJrE8 (e8 : Byte) (s : State) : Host.Outcome State Fault Refusal :=
  perform (.jrE8 e8) (fun t => t.jumpRel e8) s

/-- JR NZ,e8 (R205). -/
def execJrNzE8 (e8 : Byte) (s : State) : Host.Outcome State Fault Refusal :=
  perform (.jrNzE8 e8) (fun t => t.onCond .nz fun u => u.jumpRel e8) s

/-- JR Z,e8 (R205). -/
def execJrZE8 (e8 : Byte) (s : State) : Host.Outcome State Fault Refusal :=
  perform (.jrZE8 e8) (fun t => t.onCond .z fun u => u.jumpRel e8) s

/-- JR NC,e8 (R205). -/
def execJrNcE8 (e8 : Byte) (s : State) : Host.Outcome State Fault Refusal :=
  perform (.jrNcE8 e8) (fun t => t.onCond .nc fun u => u.jumpRel e8) s

/-- JR C,e8 (R205). -/
def execJrCE8 (e8 : Byte) (s : State) : Host.Outcome State Fault Refusal :=
  perform (.jrCE8 e8) (fun t => t.onCond .c fun u => u.jumpRel e8) s

/-- RET NZ (R209). -/
def execRetNz (s : State) : Host.Outcome State Fault Refusal :=
  perform .retNz (fun t => t.onCond .nz fun u => u.ret) s

/-- JP NZ,a16 (R202). -/
def execJpNzA16 (a16 : Word) (s : State) : Host.Outcome State Fault Refusal :=
  perform (.jpNzA16 a16) (fun t => t.onCond .nz fun u => u.jump a16) s

/-- JP a16 (R201). -/
def execJpA16 (a16 : Word) (s : State) : Host.Outcome State Fault Refusal :=
  perform (.jpA16 a16) (fun t => t.jump a16) s

/-- CALL NZ,a16 (R207). -/
def execCallNzA16 (a16 : Word) (s : State) : Host.Outcome State Fault Refusal :=
  perform (.callNzA16 a16) (fun t => t.onCond .nz fun u => u.call a16) s

/-- RST 0x00 (R211). -/
def execRst00 (s : State) : Host.Outcome State Fault Refusal :=
  perform .rst00 (fun t => t.call 0x0000) s

/-- RET Z (R209). -/
def execRetZ (s : State) : Host.Outcome State Fault Refusal :=
  perform .retZ (fun t => t.onCond .z fun u => u.ret) s

/-- RET (R208). -/
def execRet (s : State) : Host.Outcome State Fault Refusal :=
  perform .ret (fun t => t.ret) s

/-- JP Z,a16 (R202). -/
def execJpZA16 (a16 : Word) (s : State) : Host.Outcome State Fault Refusal :=
  perform (.jpZA16 a16) (fun t => t.onCond .z fun u => u.jump a16) s

/-- CALL Z,a16 (R207). -/
def execCallZA16 (a16 : Word) (s : State) : Host.Outcome State Fault Refusal :=
  perform (.callZA16 a16) (fun t => t.onCond .z fun u => u.call a16) s

/-- CALL a16 (R206). -/
def execCallA16 (a16 : Word) (s : State) : Host.Outcome State Fault Refusal :=
  perform (.callA16 a16) (fun t => t.call a16) s

/-- RST 0x08 (R211). -/
def execRst08 (s : State) : Host.Outcome State Fault Refusal :=
  perform .rst08 (fun t => t.call 0x0008) s

/-- RET NC (R209). -/
def execRetNc (s : State) : Host.Outcome State Fault Refusal :=
  perform .retNc (fun t => t.onCond .nc fun u => u.ret) s

/-- JP NC,a16 (R202). -/
def execJpNcA16 (a16 : Word) (s : State) : Host.Outcome State Fault Refusal :=
  perform (.jpNcA16 a16) (fun t => t.onCond .nc fun u => u.jump a16) s

/-- CALL NC,a16 (R207). -/
def execCallNcA16 (a16 : Word) (s : State) : Host.Outcome State Fault Refusal :=
  perform (.callNcA16 a16) (fun t => t.onCond .nc fun u => u.call a16) s

/-- RST 0x10 (R211). -/
def execRst10 (s : State) : Host.Outcome State Fault Refusal :=
  perform .rst10 (fun t => t.call 0x0010) s

/-- RET C (R209). -/
def execRetC (s : State) : Host.Outcome State Fault Refusal :=
  perform .retC (fun t => t.onCond .c fun u => u.ret) s

/-- RETI (R210). -/
def execReti (s : State) : Host.Outcome State Fault Refusal :=
  perform .reti (fun t => t.retEnable) s

/-- JP C,a16 (R202). -/
def execJpCA16 (a16 : Word) (s : State) : Host.Outcome State Fault Refusal :=
  perform (.jpCA16 a16) (fun t => t.onCond .c fun u => u.jump a16) s

/-- CALL C,a16 (R207). -/
def execCallCA16 (a16 : Word) (s : State) : Host.Outcome State Fault Refusal :=
  perform (.callCA16 a16) (fun t => t.onCond .c fun u => u.call a16) s

/-- RST 0x18 (R211). -/
def execRst18 (s : State) : Host.Outcome State Fault Refusal :=
  perform .rst18 (fun t => t.call 0x0018) s

/-- RST 0x20 (R211). -/
def execRst20 (s : State) : Host.Outcome State Fault Refusal :=
  perform .rst20 (fun t => t.call 0x0020) s

/-- JP HL (R203). -/
def execJpHl (s : State) : Host.Outcome State Fault Refusal :=
  perform .jpHl (fun t => t.jump t.hl) s

/-- RST 0x28 (R211). -/
def execRst28 (s : State) : Host.Outcome State Fault Refusal :=
  perform .rst28 (fun t => t.call 0x0028) s

/-- RST 0x30 (R211). -/
def execRst30 (s : State) : Host.Outcome State Fault Refusal :=
  perform .rst30 (fun t => t.call 0x0030) s

/-- RST 0x38 (R211). -/
def execRst38 (s : State) : Host.Outcome State Fault Refusal :=
  perform .rst38 (fun t => t.call 0x0038) s

end Sys2Proof.Machine
end

