-- ==== Sys2Proof/Machine/Load.lean ====
section
/-! DEFINITION. Loads and stores (44_load.md R230 to R252): the shared rules, then one meaning per instruction. -/

namespace Sys2Proof.Machine

/-- LD between two 8-bit operands (R230, R232, R233). -/
def State.ld8 (s : State) (dst src : R8) : State := s.put8 dst (s.get8 src)

/-- LD of an immediate to an 8-bit operand (R231, R234). -/
def State.ld8Imm (s : State) (dst : R8) (n8 : Byte) : State := s.put8 dst n8

/-- LD A from a memory operand; HL moves after the access (R235, R236, R239, R240, R247, R249, R251). -/
def State.loadA (s : State) (m : MemOperand) : State :=
  { s with a := s.read8 (s.address m) }.afterAccess m

/-- LD of A to a memory operand; HL moves after the access (R237, R238, R241, R242, R246, R248, R250). -/
def State.storeA (s : State) (m : MemOperand) : State :=
  (s.write8 (s.address m) s.a).afterAccess m

/-- LD dd,n16 (R243). -/
def State.ld16Imm (s : State) (dst : R16) (n16 : Word) : State := s.put16 dst n16

/-- LD (a16),SP (R244). -/
def State.storeSp (s : State) (a16 : Word) : State := s.write16 a16 s.sp

/-- LD SP,HL (R245). -/
def State.ldSpFromHl (s : State) : State := { s with sp := s.hl }

/-- LD HL,SP+e8 (R252): SP is unchanged. -/
def State.ldHlFromSp (s : State) (e8 : Byte) : State :=
  (s.setHl (addSpE8 s.sp e8).res).setFlags (some false) (some false) (some (addSpE8 s.sp e8).h) (some (addSpE8 s.sp e8).c)

/-- LD BC,n16 (R243). -/
def execLdBcN16 (n16 : Word) (s : State) : Host.Outcome State Fault Refusal :=
  perform (.ldBcN16 n16) (fun t => t.ld16Imm .bc n16) s

/-- LD (BC),A (R237). -/
def execLdAtBcA (s : State) : Host.Outcome State Fault Refusal :=
  perform .ldAtBcA (fun t => t.storeA .atBc) s

/-- LD B,n8 (R231). -/
def execLdBN8 (n8 : Byte) (s : State) : Host.Outcome State Fault Refusal :=
  perform (.ldBN8 n8) (fun t => t.ld8Imm .b n8) s

/-- LD (a16),SP (R244). -/
def execLdAtA16Sp (a16 : Word) (s : State) : Host.Outcome State Fault Refusal :=
  perform (.ldAtA16Sp a16) (fun t => t.storeSp a16) s

/-- LD A,(BC) (R235). -/
def execLdAAtBc (s : State) : Host.Outcome State Fault Refusal :=
  perform .ldAAtBc (fun t => t.loadA .atBc) s

/-- LD C,n8 (R231). -/
def execLdCN8 (n8 : Byte) (s : State) : Host.Outcome State Fault Refusal :=
  perform (.ldCN8 n8) (fun t => t.ld8Imm .c n8) s

/-- LD DE,n16 (R243). -/
def execLdDeN16 (n16 : Word) (s : State) : Host.Outcome State Fault Refusal :=
  perform (.ldDeN16 n16) (fun t => t.ld16Imm .de n16) s

/-- LD (DE),A (R238). -/
def execLdAtDeA (s : State) : Host.Outcome State Fault Refusal :=
  perform .ldAtDeA (fun t => t.storeA .atDe) s

/-- LD D,n8 (R231). -/
def execLdDN8 (n8 : Byte) (s : State) : Host.Outcome State Fault Refusal :=
  perform (.ldDN8 n8) (fun t => t.ld8Imm .d n8) s

/-- LD A,(DE) (R236). -/
def execLdAAtDe (s : State) : Host.Outcome State Fault Refusal :=
  perform .ldAAtDe (fun t => t.loadA .atDe) s

/-- LD E,n8 (R231). -/
def execLdEN8 (n8 : Byte) (s : State) : Host.Outcome State Fault Refusal :=
  perform (.ldEN8 n8) (fun t => t.ld8Imm .e n8) s

/-- LD HL,n16 (R243). -/
def execLdHlN16 (n16 : Word) (s : State) : Host.Outcome State Fault Refusal :=
  perform (.ldHlN16 n16) (fun t => t.ld16Imm .hl n16) s

/-- LD (HL+),A (R241). -/
def execLdAtHlIncA (s : State) : Host.Outcome State Fault Refusal :=
  perform .ldAtHlIncA (fun t => t.storeA .atHlInc) s

/-- LD H,n8 (R231). -/
def execLdHN8 (n8 : Byte) (s : State) : Host.Outcome State Fault Refusal :=
  perform (.ldHN8 n8) (fun t => t.ld8Imm .h n8) s

/-- LD A,(HL+) (R239). -/
def execLdAAtHlInc (s : State) : Host.Outcome State Fault Refusal :=
  perform .ldAAtHlInc (fun t => t.loadA .atHlInc) s

/-- LD L,n8 (R231). -/
def execLdLN8 (n8 : Byte) (s : State) : Host.Outcome State Fault Refusal :=
  perform (.ldLN8 n8) (fun t => t.ld8Imm .l n8) s

/-- LD SP,n16 (R243). -/
def execLdSpN16 (n16 : Word) (s : State) : Host.Outcome State Fault Refusal :=
  perform (.ldSpN16 n16) (fun t => t.ld16Imm .sp n16) s

/-- LD (HL-),A (R242). -/
def execLdAtHlDecA (s : State) : Host.Outcome State Fault Refusal :=
  perform .ldAtHlDecA (fun t => t.storeA .atHlDec) s

/-- LD (HL),n8 (R234). -/
def execLdAtHlN8 (n8 : Byte) (s : State) : Host.Outcome State Fault Refusal :=
  perform (.ldAtHlN8 n8) (fun t => t.ld8Imm .atHl n8) s

/-- LD A,(HL-) (R240). -/
def execLdAAtHlDec (s : State) : Host.Outcome State Fault Refusal :=
  perform .ldAAtHlDec (fun t => t.loadA .atHlDec) s

/-- LD A,n8 (R231). -/
def execLdAN8 (n8 : Byte) (s : State) : Host.Outcome State Fault Refusal :=
  perform (.ldAN8 n8) (fun t => t.ld8Imm .a n8) s

/-- LD B,B (R230). -/
def execLdBB (s : State) : Host.Outcome State Fault Refusal :=
  perform .ldBB (fun t => t.ld8 .b .b) s

/-- LD B,C (R230). -/
def execLdBC (s : State) : Host.Outcome State Fault Refusal :=
  perform .ldBC (fun t => t.ld8 .b .c) s

/-- LD B,D (R230). -/
def execLdBD (s : State) : Host.Outcome State Fault Refusal :=
  perform .ldBD (fun t => t.ld8 .b .d) s

/-- LD B,E (R230). -/
def execLdBE (s : State) : Host.Outcome State Fault Refusal :=
  perform .ldBE (fun t => t.ld8 .b .e) s

/-- LD B,H (R230). -/
def execLdBH (s : State) : Host.Outcome State Fault Refusal :=
  perform .ldBH (fun t => t.ld8 .b .h) s

/-- LD B,L (R230). -/
def execLdBL (s : State) : Host.Outcome State Fault Refusal :=
  perform .ldBL (fun t => t.ld8 .b .l) s

/-- LD B,(HL) (R232). -/
def execLdBAtHl (s : State) : Host.Outcome State Fault Refusal :=
  perform .ldBAtHl (fun t => t.ld8 .b .atHl) s

/-- LD B,A (R230). -/
def execLdBA (s : State) : Host.Outcome State Fault Refusal :=
  perform .ldBA (fun t => t.ld8 .b .a) s

/-- LD C,B (R230). -/
def execLdCB (s : State) : Host.Outcome State Fault Refusal :=
  perform .ldCB (fun t => t.ld8 .c .b) s

/-- LD C,C (R230). -/
def execLdCC (s : State) : Host.Outcome State Fault Refusal :=
  perform .ldCC (fun t => t.ld8 .c .c) s

/-- LD C,D (R230). -/
def execLdCD (s : State) : Host.Outcome State Fault Refusal :=
  perform .ldCD (fun t => t.ld8 .c .d) s

/-- LD C,E (R230). -/
def execLdCE (s : State) : Host.Outcome State Fault Refusal :=
  perform .ldCE (fun t => t.ld8 .c .e) s

/-- LD C,H (R230). -/
def execLdCH (s : State) : Host.Outcome State Fault Refusal :=
  perform .ldCH (fun t => t.ld8 .c .h) s

/-- LD C,L (R230). -/
def execLdCL (s : State) : Host.Outcome State Fault Refusal :=
  perform .ldCL (fun t => t.ld8 .c .l) s

/-- LD C,(HL) (R232). -/
def execLdCAtHl (s : State) : Host.Outcome State Fault Refusal :=
  perform .ldCAtHl (fun t => t.ld8 .c .atHl) s

/-- LD C,A (R230). -/
def execLdCA (s : State) : Host.Outcome State Fault Refusal :=
  perform .ldCA (fun t => t.ld8 .c .a) s

/-- LD D,B (R230). -/
def execLdDB (s : State) : Host.Outcome State Fault Refusal :=
  perform .ldDB (fun t => t.ld8 .d .b) s

/-- LD D,C (R230). -/
def execLdDC (s : State) : Host.Outcome State Fault Refusal :=
  perform .ldDC (fun t => t.ld8 .d .c) s

/-- LD D,D (R230). -/
def execLdDD (s : State) : Host.Outcome State Fault Refusal :=
  perform .ldDD (fun t => t.ld8 .d .d) s

/-- LD D,E (R230). -/
def execLdDE (s : State) : Host.Outcome State Fault Refusal :=
  perform .ldDE (fun t => t.ld8 .d .e) s

/-- LD D,H (R230). -/
def execLdDH (s : State) : Host.Outcome State Fault Refusal :=
  perform .ldDH (fun t => t.ld8 .d .h) s

/-- LD D,L (R230). -/
def execLdDL (s : State) : Host.Outcome State Fault Refusal :=
  perform .ldDL (fun t => t.ld8 .d .l) s

/-- LD D,(HL) (R232). -/
def execLdDAtHl (s : State) : Host.Outcome State Fault Refusal :=
  perform .ldDAtHl (fun t => t.ld8 .d .atHl) s

/-- LD D,A (R230). -/
def execLdDA (s : State) : Host.Outcome State Fault Refusal :=
  perform .ldDA (fun t => t.ld8 .d .a) s

/-- LD E,B (R230). -/
def execLdEB (s : State) : Host.Outcome State Fault Refusal :=
  perform .ldEB (fun t => t.ld8 .e .b) s

/-- LD E,C (R230). -/
def execLdEC (s : State) : Host.Outcome State Fault Refusal :=
  perform .ldEC (fun t => t.ld8 .e .c) s

/-- LD E,D (R230). -/
def execLdED (s : State) : Host.Outcome State Fault Refusal :=
  perform .ldED (fun t => t.ld8 .e .d) s

/-- LD E,E (R230). -/
def execLdEE (s : State) : Host.Outcome State Fault Refusal :=
  perform .ldEE (fun t => t.ld8 .e .e) s

/-- LD E,H (R230). -/
def execLdEH (s : State) : Host.Outcome State Fault Refusal :=
  perform .ldEH (fun t => t.ld8 .e .h) s

/-- LD E,L (R230). -/
def execLdEL (s : State) : Host.Outcome State Fault Refusal :=
  perform .ldEL (fun t => t.ld8 .e .l) s

/-- LD E,(HL) (R232). -/
def execLdEAtHl (s : State) : Host.Outcome State Fault Refusal :=
  perform .ldEAtHl (fun t => t.ld8 .e .atHl) s

/-- LD E,A (R230). -/
def execLdEA (s : State) : Host.Outcome State Fault Refusal :=
  perform .ldEA (fun t => t.ld8 .e .a) s

/-- LD H,B (R230). -/
def execLdHB (s : State) : Host.Outcome State Fault Refusal :=
  perform .ldHB (fun t => t.ld8 .h .b) s

/-- LD H,C (R230). -/
def execLdHC (s : State) : Host.Outcome State Fault Refusal :=
  perform .ldHC (fun t => t.ld8 .h .c) s

/-- LD H,D (R230). -/
def execLdHD (s : State) : Host.Outcome State Fault Refusal :=
  perform .ldHD (fun t => t.ld8 .h .d) s

/-- LD H,E (R230). -/
def execLdHE (s : State) : Host.Outcome State Fault Refusal :=
  perform .ldHE (fun t => t.ld8 .h .e) s

/-- LD H,H (R230). -/
def execLdHH (s : State) : Host.Outcome State Fault Refusal :=
  perform .ldHH (fun t => t.ld8 .h .h) s

/-- LD H,L (R230). -/
def execLdHL (s : State) : Host.Outcome State Fault Refusal :=
  perform .ldHL (fun t => t.ld8 .h .l) s

/-- LD H,(HL) (R232). -/
def execLdHAtHl (s : State) : Host.Outcome State Fault Refusal :=
  perform .ldHAtHl (fun t => t.ld8 .h .atHl) s

/-- LD H,A (R230). -/
def execLdHA (s : State) : Host.Outcome State Fault Refusal :=
  perform .ldHA (fun t => t.ld8 .h .a) s

/-- LD L,B (R230). -/
def execLdLB (s : State) : Host.Outcome State Fault Refusal :=
  perform .ldLB (fun t => t.ld8 .l .b) s

/-- LD L,C (R230). -/
def execLdLC (s : State) : Host.Outcome State Fault Refusal :=
  perform .ldLC (fun t => t.ld8 .l .c) s

/-- LD L,D (R230). -/
def execLdLD (s : State) : Host.Outcome State Fault Refusal :=
  perform .ldLD (fun t => t.ld8 .l .d) s

/-- LD L,E (R230). -/
def execLdLE (s : State) : Host.Outcome State Fault Refusal :=
  perform .ldLE (fun t => t.ld8 .l .e) s

/-- LD L,H (R230). -/
def execLdLH (s : State) : Host.Outcome State Fault Refusal :=
  perform .ldLH (fun t => t.ld8 .l .h) s

/-- LD L,L (R230). -/
def execLdLL (s : State) : Host.Outcome State Fault Refusal :=
  perform .ldLL (fun t => t.ld8 .l .l) s

/-- LD L,(HL) (R232). -/
def execLdLAtHl (s : State) : Host.Outcome State Fault Refusal :=
  perform .ldLAtHl (fun t => t.ld8 .l .atHl) s

/-- LD L,A (R230). -/
def execLdLA (s : State) : Host.Outcome State Fault Refusal :=
  perform .ldLA (fun t => t.ld8 .l .a) s

/-- LD (HL),B (R233). -/
def execLdAtHlB (s : State) : Host.Outcome State Fault Refusal :=
  perform .ldAtHlB (fun t => t.ld8 .atHl .b) s

/-- LD (HL),C (R233). -/
def execLdAtHlC (s : State) : Host.Outcome State Fault Refusal :=
  perform .ldAtHlC (fun t => t.ld8 .atHl .c) s

/-- LD (HL),D (R233). -/
def execLdAtHlD (s : State) : Host.Outcome State Fault Refusal :=
  perform .ldAtHlD (fun t => t.ld8 .atHl .d) s

/-- LD (HL),E (R233). -/
def execLdAtHlE (s : State) : Host.Outcome State Fault Refusal :=
  perform .ldAtHlE (fun t => t.ld8 .atHl .e) s

/-- LD (HL),H (R233). -/
def execLdAtHlH (s : State) : Host.Outcome State Fault Refusal :=
  perform .ldAtHlH (fun t => t.ld8 .atHl .h) s

/-- LD (HL),L (R233). -/
def execLdAtHlL (s : State) : Host.Outcome State Fault Refusal :=
  perform .ldAtHlL (fun t => t.ld8 .atHl .l) s

/-- LD (HL),A (R233). -/
def execLdAtHlA (s : State) : Host.Outcome State Fault Refusal :=
  perform .ldAtHlA (fun t => t.ld8 .atHl .a) s

/-- LD A,B (R230). -/
def execLdAB (s : State) : Host.Outcome State Fault Refusal :=
  perform .ldAB (fun t => t.ld8 .a .b) s

/-- LD A,C (R230). -/
def execLdAC (s : State) : Host.Outcome State Fault Refusal :=
  perform .ldAC (fun t => t.ld8 .a .c) s

/-- LD A,D (R230). -/
def execLdAD (s : State) : Host.Outcome State Fault Refusal :=
  perform .ldAD (fun t => t.ld8 .a .d) s

/-- LD A,E (R230). -/
def execLdAE (s : State) : Host.Outcome State Fault Refusal :=
  perform .ldAE (fun t => t.ld8 .a .e) s

/-- LD A,H (R230). -/
def execLdAH (s : State) : Host.Outcome State Fault Refusal :=
  perform .ldAH (fun t => t.ld8 .a .h) s

/-- LD A,L (R230). -/
def execLdAL (s : State) : Host.Outcome State Fault Refusal :=
  perform .ldAL (fun t => t.ld8 .a .l) s

/-- LD A,(HL) (R232). -/
def execLdAAtHl (s : State) : Host.Outcome State Fault Refusal :=
  perform .ldAAtHl (fun t => t.ld8 .a .atHl) s

/-- LD A,A (R230). -/
def execLdAA (s : State) : Host.Outcome State Fault Refusal :=
  perform .ldAA (fun t => t.ld8 .a .a) s

/-- LDH (a8),A (R248). -/
def execLdhAtA8A (a8 : Byte) (s : State) : Host.Outcome State Fault Refusal :=
  perform (.ldhAtA8A a8) (fun t => t.storeA (.atA8 a8)) s

/-- LD (C),A (R250). -/
def execLdAtCA (s : State) : Host.Outcome State Fault Refusal :=
  perform .ldAtCA (fun t => t.storeA .atC) s

/-- LD (a16),A (R246). -/
def execLdAtA16A (a16 : Word) (s : State) : Host.Outcome State Fault Refusal :=
  perform (.ldAtA16A a16) (fun t => t.storeA (.atA16 a16)) s

/-- LDH A,(a8) (R249). -/
def execLdhAAtA8 (a8 : Byte) (s : State) : Host.Outcome State Fault Refusal :=
  perform (.ldhAAtA8 a8) (fun t => t.loadA (.atA8 a8)) s

/-- LD A,(C) (R251). -/
def execLdAAtC (s : State) : Host.Outcome State Fault Refusal :=
  perform .ldAAtC (fun t => t.loadA .atC) s

/-- LD HL,SP+e8 (R252). -/
def execLdHlSpE8 (e8 : Byte) (s : State) : Host.Outcome State Fault Refusal :=
  perform (.ldHlSpE8 e8) (fun t => t.ldHlFromSp e8) s

/-- LD SP,HL (R245). -/
def execLdSpHl (s : State) : Host.Outcome State Fault Refusal :=
  perform .ldSpHl (fun t => t.ldSpFromHl) s

/-- LD A,(a16) (R247). -/
def execLdAAtA16 (a16 : Word) (s : State) : Host.Outcome State Fault Refusal :=
  perform (.ldAAtA16 a16) (fun t => t.loadA (.atA16 a16)) s

end Sys2Proof.Machine
end

