-- ==== Sys2Proof/Machine/Stack.lean ====
section
/-! DEFINITION. Stack operations (43_stack.md R222 to R224): the shared rules, then one meaning per instruction. -/

namespace Sys2Proof.Machine

/-- PUSH qq (R222). -/
def State.pushPair (s : State) (q : Pair) : State := s.push16 (s.getPair q)

/-- POP (R223, R224): the pair takes the word at SP, and SP rises by 2. AF keeps its low nibble zero. -/
def State.popPair (s : State) (q : Pair) : State := s.drop16.putPair q s.top16

/-- POP BC (R223). -/
def execPopBc (s : State) : Host.Outcome State Fault Refusal :=
  perform .popBc (fun t => t.popPair .bc) s

/-- PUSH BC (R222). -/
def execPushBc (s : State) : Host.Outcome State Fault Refusal :=
  perform .pushBc (fun t => t.pushPair .bc) s

/-- POP DE (R223). -/
def execPopDe (s : State) : Host.Outcome State Fault Refusal :=
  perform .popDe (fun t => t.popPair .de) s

/-- PUSH DE (R222). -/
def execPushDe (s : State) : Host.Outcome State Fault Refusal :=
  perform .pushDe (fun t => t.pushPair .de) s

/-- POP HL (R223). -/
def execPopHl (s : State) : Host.Outcome State Fault Refusal :=
  perform .popHl (fun t => t.popPair .hl) s

/-- PUSH HL (R222). -/
def execPushHl (s : State) : Host.Outcome State Fault Refusal :=
  perform .pushHl (fun t => t.pushPair .hl) s

/-- POP AF (R224). -/
def execPopAf (s : State) : Host.Outcome State Fault Refusal :=
  perform .popAf (fun t => t.popPair .af) s

/-- PUSH AF (R222). -/
def execPushAf (s : State) : Host.Outcome State Fault Refusal :=
  perform .pushAf (fun t => t.pushPair .af) s

end Sys2Proof.Machine
end

