-- ==== Sys2Proof/Machine/Rotate.lean ====
section
/-! DEFINITION. Rotates of A and the prefixed table (46_rotate_prefixed.md R280 to R295): the shared rules, then one meaning per instruction. All of them are FULL only; `perform` raises UnsupportedOpcode in CORE. -/

namespace Sys2Proof.Machine

/-- RLCA, RRCA, RLA, RRA: Z is always cleared (R280 to R283). -/
def State.rotateA (s : State) (op : ShiftOp) : State :=
  { s with a := (shift8 op s.a s.flagC).1 }.setFlags (some false) (some false) (some false) (some (shift8 op s.a s.flagC).2)

/-- The eight rotates and shifts of an operand, flags Z 0 0 C (R284 to R292). -/
def State.shiftOperand (s : State) (op : ShiftOp) (r : R8) : State :=
  (s.put8 r (shift8 op (s.get8 r) s.flagC).1).setFlags (some (decide ((shift8 op (s.get8 r) s.flagC).1 = 0))) (some false) (some false) (some (shift8 op (s.get8 r) s.flagC).2)

/-- BIT b,r: flags Z 0 1 -, nothing stored (R293). -/
def State.testBit (s : State) (b : Nat) (r : R8) : State :=
  s.setFlags (some (!(s.get8 r).getLsbD b)) (some false) (some true) none

/-- RES b,r: no flag; the (HL) form always stores (R294). -/
def State.resetBit (s : State) (b : Nat) (r : R8) : State := s.put8 r (s.get8 r &&& ~~~(bitMask b))

/-- SET b,r: no flag; the (HL) form always stores (R295). -/
def State.setBit (s : State) (b : Nat) (r : R8) : State := s.put8 r (s.get8 r ||| bitMask b)

/-- What a second byte does, read by its fields (R126): group in bits 7 to 6, operation or bit number in bits 5 to 3, operand in bits 2 to 0. -/
def State.prefixedRule (s : State) (op2 : Byte) : State :=
  let r := R8.ofCode (op2.extractLsb' 0 3)
  let y := op2.extractLsb' 3 3
  match (op2.extractLsb' 6 2).toNat with
  | 0 => s.shiftOperand (ShiftOp.ofCode y) r
  | 1 => s.testBit y.toNat r
  | 2 => s.resetBit y.toNat r
  | _ => s.setBit y.toNat r

/-- RLCA (R280). -/
def execRlca (s : State) : Host.Outcome State Fault Refusal :=
  perform .rlca (fun t => t.rotateA .rlc) s

/-- RRCA (R281). -/
def execRrca (s : State) : Host.Outcome State Fault Refusal :=
  perform .rrca (fun t => t.rotateA .rrc) s

/-- RLA (R282). -/
def execRla (s : State) : Host.Outcome State Fault Refusal :=
  perform .rla (fun t => t.rotateA .rl) s

/-- RRA (R283). -/
def execRra (s : State) : Host.Outcome State Fault Refusal :=
  perform .rra (fun t => t.rotateA .rr) s

/-- RLC B (R285). -/
def execRlcB (s : State) : Host.Outcome State Fault Refusal :=
  perform .rlcB (fun t => t.shiftOperand .rlc .b) s

/-- RLC C (R285). -/
def execRlcC (s : State) : Host.Outcome State Fault Refusal :=
  perform .rlcC (fun t => t.shiftOperand .rlc .c) s

/-- RLC D (R285). -/
def execRlcD (s : State) : Host.Outcome State Fault Refusal :=
  perform .rlcD (fun t => t.shiftOperand .rlc .d) s

/-- RLC E (R285). -/
def execRlcE (s : State) : Host.Outcome State Fault Refusal :=
  perform .rlcE (fun t => t.shiftOperand .rlc .e) s

/-- RLC H (R285). -/
def execRlcH (s : State) : Host.Outcome State Fault Refusal :=
  perform .rlcH (fun t => t.shiftOperand .rlc .h) s

/-- RLC L (R285). -/
def execRlcL (s : State) : Host.Outcome State Fault Refusal :=
  perform .rlcL (fun t => t.shiftOperand .rlc .l) s

/-- RLC (HL) (R285). -/
def execRlcAtHl (s : State) : Host.Outcome State Fault Refusal :=
  perform .rlcAtHl (fun t => t.shiftOperand .rlc .atHl) s

/-- RLC A (R285). -/
def execRlcA (s : State) : Host.Outcome State Fault Refusal :=
  perform .rlcA (fun t => t.shiftOperand .rlc .a) s

/-- RRC B (R286). -/
def execRrcB (s : State) : Host.Outcome State Fault Refusal :=
  perform .rrcB (fun t => t.shiftOperand .rrc .b) s

/-- RRC C (R286). -/
def execRrcC (s : State) : Host.Outcome State Fault Refusal :=
  perform .rrcC (fun t => t.shiftOperand .rrc .c) s

/-- RRC D (R286). -/
def execRrcD (s : State) : Host.Outcome State Fault Refusal :=
  perform .rrcD (fun t => t.shiftOperand .rrc .d) s

/-- RRC E (R286). -/
def execRrcE (s : State) : Host.Outcome State Fault Refusal :=
  perform .rrcE (fun t => t.shiftOperand .rrc .e) s

/-- RRC H (R286). -/
def execRrcH (s : State) : Host.Outcome State Fault Refusal :=
  perform .rrcH (fun t => t.shiftOperand .rrc .h) s

/-- RRC L (R286). -/
def execRrcL (s : State) : Host.Outcome State Fault Refusal :=
  perform .rrcL (fun t => t.shiftOperand .rrc .l) s

/-- RRC (HL) (R286). -/
def execRrcAtHl (s : State) : Host.Outcome State Fault Refusal :=
  perform .rrcAtHl (fun t => t.shiftOperand .rrc .atHl) s

/-- RRC A (R286). -/
def execRrcA (s : State) : Host.Outcome State Fault Refusal :=
  perform .rrcA (fun t => t.shiftOperand .rrc .a) s

/-- RL B (R287). -/
def execRlB (s : State) : Host.Outcome State Fault Refusal :=
  perform .rlB (fun t => t.shiftOperand .rl .b) s

/-- RL C (R287). -/
def execRlC (s : State) : Host.Outcome State Fault Refusal :=
  perform .rlC (fun t => t.shiftOperand .rl .c) s

/-- RL D (R287). -/
def execRlD (s : State) : Host.Outcome State Fault Refusal :=
  perform .rlD (fun t => t.shiftOperand .rl .d) s

/-- RL E (R287). -/
def execRlE (s : State) : Host.Outcome State Fault Refusal :=
  perform .rlE (fun t => t.shiftOperand .rl .e) s

/-- RL H (R287). -/
def execRlH (s : State) : Host.Outcome State Fault Refusal :=
  perform .rlH (fun t => t.shiftOperand .rl .h) s

/-- RL L (R287). -/
def execRlL (s : State) : Host.Outcome State Fault Refusal :=
  perform .rlL (fun t => t.shiftOperand .rl .l) s

/-- RL (HL) (R287). -/
def execRlAtHl (s : State) : Host.Outcome State Fault Refusal :=
  perform .rlAtHl (fun t => t.shiftOperand .rl .atHl) s

/-- RL A (R287). -/
def execRlA (s : State) : Host.Outcome State Fault Refusal :=
  perform .rlA (fun t => t.shiftOperand .rl .a) s

/-- RR B (R288). -/
def execRrB (s : State) : Host.Outcome State Fault Refusal :=
  perform .rrB (fun t => t.shiftOperand .rr .b) s

/-- RR C (R288). -/
def execRrC (s : State) : Host.Outcome State Fault Refusal :=
  perform .rrC (fun t => t.shiftOperand .rr .c) s

/-- RR D (R288). -/
def execRrD (s : State) : Host.Outcome State Fault Refusal :=
  perform .rrD (fun t => t.shiftOperand .rr .d) s

/-- RR E (R288). -/
def execRrE (s : State) : Host.Outcome State Fault Refusal :=
  perform .rrE (fun t => t.shiftOperand .rr .e) s

/-- RR H (R288). -/
def execRrH (s : State) : Host.Outcome State Fault Refusal :=
  perform .rrH (fun t => t.shiftOperand .rr .h) s

/-- RR L (R288). -/
def execRrL (s : State) : Host.Outcome State Fault Refusal :=
  perform .rrL (fun t => t.shiftOperand .rr .l) s

/-- RR (HL) (R288). -/
def execRrAtHl (s : State) : Host.Outcome State Fault Refusal :=
  perform .rrAtHl (fun t => t.shiftOperand .rr .atHl) s

/-- RR A (R288). -/
def execRrA (s : State) : Host.Outcome State Fault Refusal :=
  perform .rrA (fun t => t.shiftOperand .rr .a) s

/-- SLA B (R289). -/
def execSlaB (s : State) : Host.Outcome State Fault Refusal :=
  perform .slaB (fun t => t.shiftOperand .sla .b) s

/-- SLA C (R289). -/
def execSlaC (s : State) : Host.Outcome State Fault Refusal :=
  perform .slaC (fun t => t.shiftOperand .sla .c) s

/-- SLA D (R289). -/
def execSlaD (s : State) : Host.Outcome State Fault Refusal :=
  perform .slaD (fun t => t.shiftOperand .sla .d) s

/-- SLA E (R289). -/
def execSlaE (s : State) : Host.Outcome State Fault Refusal :=
  perform .slaE (fun t => t.shiftOperand .sla .e) s

/-- SLA H (R289). -/
def execSlaH (s : State) : Host.Outcome State Fault Refusal :=
  perform .slaH (fun t => t.shiftOperand .sla .h) s

/-- SLA L (R289). -/
def execSlaL (s : State) : Host.Outcome State Fault Refusal :=
  perform .slaL (fun t => t.shiftOperand .sla .l) s

/-- SLA (HL) (R289). -/
def execSlaAtHl (s : State) : Host.Outcome State Fault Refusal :=
  perform .slaAtHl (fun t => t.shiftOperand .sla .atHl) s

/-- SLA A (R289). -/
def execSlaA (s : State) : Host.Outcome State Fault Refusal :=
  perform .slaA (fun t => t.shiftOperand .sla .a) s

/-- SRA B (R290). -/
def execSraB (s : State) : Host.Outcome State Fault Refusal :=
  perform .sraB (fun t => t.shiftOperand .sra .b) s

/-- SRA C (R290). -/
def execSraC (s : State) : Host.Outcome State Fault Refusal :=
  perform .sraC (fun t => t.shiftOperand .sra .c) s

/-- SRA D (R290). -/
def execSraD (s : State) : Host.Outcome State Fault Refusal :=
  perform .sraD (fun t => t.shiftOperand .sra .d) s

/-- SRA E (R290). -/
def execSraE (s : State) : Host.Outcome State Fault Refusal :=
  perform .sraE (fun t => t.shiftOperand .sra .e) s

/-- SRA H (R290). -/
def execSraH (s : State) : Host.Outcome State Fault Refusal :=
  perform .sraH (fun t => t.shiftOperand .sra .h) s

/-- SRA L (R290). -/
def execSraL (s : State) : Host.Outcome State Fault Refusal :=
  perform .sraL (fun t => t.shiftOperand .sra .l) s

/-- SRA (HL) (R290). -/
def execSraAtHl (s : State) : Host.Outcome State Fault Refusal :=
  perform .sraAtHl (fun t => t.shiftOperand .sra .atHl) s

/-- SRA A (R290). -/
def execSraA (s : State) : Host.Outcome State Fault Refusal :=
  perform .sraA (fun t => t.shiftOperand .sra .a) s

/-- SWAP B (R291). -/
def execSwapB (s : State) : Host.Outcome State Fault Refusal :=
  perform .swapB (fun t => t.shiftOperand .swap .b) s

/-- SWAP C (R291). -/
def execSwapC (s : State) : Host.Outcome State Fault Refusal :=
  perform .swapC (fun t => t.shiftOperand .swap .c) s

/-- SWAP D (R291). -/
def execSwapD (s : State) : Host.Outcome State Fault Refusal :=
  perform .swapD (fun t => t.shiftOperand .swap .d) s

/-- SWAP E (R291). -/
def execSwapE (s : State) : Host.Outcome State Fault Refusal :=
  perform .swapE (fun t => t.shiftOperand .swap .e) s

/-- SWAP H (R291). -/
def execSwapH (s : State) : Host.Outcome State Fault Refusal :=
  perform .swapH (fun t => t.shiftOperand .swap .h) s

/-- SWAP L (R291). -/
def execSwapL (s : State) : Host.Outcome State Fault Refusal :=
  perform .swapL (fun t => t.shiftOperand .swap .l) s

/-- SWAP (HL) (R291). -/
def execSwapAtHl (s : State) : Host.Outcome State Fault Refusal :=
  perform .swapAtHl (fun t => t.shiftOperand .swap .atHl) s

/-- SWAP A (R291). -/
def execSwapA (s : State) : Host.Outcome State Fault Refusal :=
  perform .swapA (fun t => t.shiftOperand .swap .a) s

/-- SRL B (R292). -/
def execSrlB (s : State) : Host.Outcome State Fault Refusal :=
  perform .srlB (fun t => t.shiftOperand .srl .b) s

/-- SRL C (R292). -/
def execSrlC (s : State) : Host.Outcome State Fault Refusal :=
  perform .srlC (fun t => t.shiftOperand .srl .c) s

/-- SRL D (R292). -/
def execSrlD (s : State) : Host.Outcome State Fault Refusal :=
  perform .srlD (fun t => t.shiftOperand .srl .d) s

/-- SRL E (R292). -/
def execSrlE (s : State) : Host.Outcome State Fault Refusal :=
  perform .srlE (fun t => t.shiftOperand .srl .e) s

/-- SRL H (R292). -/
def execSrlH (s : State) : Host.Outcome State Fault Refusal :=
  perform .srlH (fun t => t.shiftOperand .srl .h) s

/-- SRL L (R292). -/
def execSrlL (s : State) : Host.Outcome State Fault Refusal :=
  perform .srlL (fun t => t.shiftOperand .srl .l) s

/-- SRL (HL) (R292). -/
def execSrlAtHl (s : State) : Host.Outcome State Fault Refusal :=
  perform .srlAtHl (fun t => t.shiftOperand .srl .atHl) s

/-- SRL A (R292). -/
def execSrlA (s : State) : Host.Outcome State Fault Refusal :=
  perform .srlA (fun t => t.shiftOperand .srl .a) s

/-- BIT 0,B (R293). -/
def execBit0B (s : State) : Host.Outcome State Fault Refusal :=
  perform .bit0B (fun t => t.testBit 0 .b) s

/-- BIT 0,C (R293). -/
def execBit0C (s : State) : Host.Outcome State Fault Refusal :=
  perform .bit0C (fun t => t.testBit 0 .c) s

/-- BIT 0,D (R293). -/
def execBit0D (s : State) : Host.Outcome State Fault Refusal :=
  perform .bit0D (fun t => t.testBit 0 .d) s

/-- BIT 0,E (R293). -/
def execBit0E (s : State) : Host.Outcome State Fault Refusal :=
  perform .bit0E (fun t => t.testBit 0 .e) s

/-- BIT 0,H (R293). -/
def execBit0H (s : State) : Host.Outcome State Fault Refusal :=
  perform .bit0H (fun t => t.testBit 0 .h) s

/-- BIT 0,L (R293). -/
def execBit0L (s : State) : Host.Outcome State Fault Refusal :=
  perform .bit0L (fun t => t.testBit 0 .l) s

/-- BIT 0,(HL) (R293). -/
def execBit0AtHl (s : State) : Host.Outcome State Fault Refusal :=
  perform .bit0AtHl (fun t => t.testBit 0 .atHl) s

/-- BIT 0,A (R293). -/
def execBit0A (s : State) : Host.Outcome State Fault Refusal :=
  perform .bit0A (fun t => t.testBit 0 .a) s

/-- BIT 1,B (R293). -/
def execBit1B (s : State) : Host.Outcome State Fault Refusal :=
  perform .bit1B (fun t => t.testBit 1 .b) s

/-- BIT 1,C (R293). -/
def execBit1C (s : State) : Host.Outcome State Fault Refusal :=
  perform .bit1C (fun t => t.testBit 1 .c) s

/-- BIT 1,D (R293). -/
def execBit1D (s : State) : Host.Outcome State Fault Refusal :=
  perform .bit1D (fun t => t.testBit 1 .d) s

/-- BIT 1,E (R293). -/
def execBit1E (s : State) : Host.Outcome State Fault Refusal :=
  perform .bit1E (fun t => t.testBit 1 .e) s

/-- BIT 1,H (R293). -/
def execBit1H (s : State) : Host.Outcome State Fault Refusal :=
  perform .bit1H (fun t => t.testBit 1 .h) s

/-- BIT 1,L (R293). -/
def execBit1L (s : State) : Host.Outcome State Fault Refusal :=
  perform .bit1L (fun t => t.testBit 1 .l) s

/-- BIT 1,(HL) (R293). -/
def execBit1AtHl (s : State) : Host.Outcome State Fault Refusal :=
  perform .bit1AtHl (fun t => t.testBit 1 .atHl) s

/-- BIT 1,A (R293). -/
def execBit1A (s : State) : Host.Outcome State Fault Refusal :=
  perform .bit1A (fun t => t.testBit 1 .a) s

/-- BIT 2,B (R293). -/
def execBit2B (s : State) : Host.Outcome State Fault Refusal :=
  perform .bit2B (fun t => t.testBit 2 .b) s

/-- BIT 2,C (R293). -/
def execBit2C (s : State) : Host.Outcome State Fault Refusal :=
  perform .bit2C (fun t => t.testBit 2 .c) s

/-- BIT 2,D (R293). -/
def execBit2D (s : State) : Host.Outcome State Fault Refusal :=
  perform .bit2D (fun t => t.testBit 2 .d) s

/-- BIT 2,E (R293). -/
def execBit2E (s : State) : Host.Outcome State Fault Refusal :=
  perform .bit2E (fun t => t.testBit 2 .e) s

/-- BIT 2,H (R293). -/
def execBit2H (s : State) : Host.Outcome State Fault Refusal :=
  perform .bit2H (fun t => t.testBit 2 .h) s

/-- BIT 2,L (R293). -/
def execBit2L (s : State) : Host.Outcome State Fault Refusal :=
  perform .bit2L (fun t => t.testBit 2 .l) s

/-- BIT 2,(HL) (R293). -/
def execBit2AtHl (s : State) : Host.Outcome State Fault Refusal :=
  perform .bit2AtHl (fun t => t.testBit 2 .atHl) s

/-- BIT 2,A (R293). -/
def execBit2A (s : State) : Host.Outcome State Fault Refusal :=
  perform .bit2A (fun t => t.testBit 2 .a) s

/-- BIT 3,B (R293). -/
def execBit3B (s : State) : Host.Outcome State Fault Refusal :=
  perform .bit3B (fun t => t.testBit 3 .b) s

/-- BIT 3,C (R293). -/
def execBit3C (s : State) : Host.Outcome State Fault Refusal :=
  perform .bit3C (fun t => t.testBit 3 .c) s

/-- BIT 3,D (R293). -/
def execBit3D (s : State) : Host.Outcome State Fault Refusal :=
  perform .bit3D (fun t => t.testBit 3 .d) s

/-- BIT 3,E (R293). -/
def execBit3E (s : State) : Host.Outcome State Fault Refusal :=
  perform .bit3E (fun t => t.testBit 3 .e) s

/-- BIT 3,H (R293). -/
def execBit3H (s : State) : Host.Outcome State Fault Refusal :=
  perform .bit3H (fun t => t.testBit 3 .h) s

/-- BIT 3,L (R293). -/
def execBit3L (s : State) : Host.Outcome State Fault Refusal :=
  perform .bit3L (fun t => t.testBit 3 .l) s

/-- BIT 3,(HL) (R293). -/
def execBit3AtHl (s : State) : Host.Outcome State Fault Refusal :=
  perform .bit3AtHl (fun t => t.testBit 3 .atHl) s

/-- BIT 3,A (R293). -/
def execBit3A (s : State) : Host.Outcome State Fault Refusal :=
  perform .bit3A (fun t => t.testBit 3 .a) s

/-- BIT 4,B (R293). -/
def execBit4B (s : State) : Host.Outcome State Fault Refusal :=
  perform .bit4B (fun t => t.testBit 4 .b) s

/-- BIT 4,C (R293). -/
def execBit4C (s : State) : Host.Outcome State Fault Refusal :=
  perform .bit4C (fun t => t.testBit 4 .c) s

/-- BIT 4,D (R293). -/
def execBit4D (s : State) : Host.Outcome State Fault Refusal :=
  perform .bit4D (fun t => t.testBit 4 .d) s

/-- BIT 4,E (R293). -/
def execBit4E (s : State) : Host.Outcome State Fault Refusal :=
  perform .bit4E (fun t => t.testBit 4 .e) s

/-- BIT 4,H (R293). -/
def execBit4H (s : State) : Host.Outcome State Fault Refusal :=
  perform .bit4H (fun t => t.testBit 4 .h) s

/-- BIT 4,L (R293). -/
def execBit4L (s : State) : Host.Outcome State Fault Refusal :=
  perform .bit4L (fun t => t.testBit 4 .l) s

/-- BIT 4,(HL) (R293). -/
def execBit4AtHl (s : State) : Host.Outcome State Fault Refusal :=
  perform .bit4AtHl (fun t => t.testBit 4 .atHl) s

/-- BIT 4,A (R293). -/
def execBit4A (s : State) : Host.Outcome State Fault Refusal :=
  perform .bit4A (fun t => t.testBit 4 .a) s

/-- BIT 5,B (R293). -/
def execBit5B (s : State) : Host.Outcome State Fault Refusal :=
  perform .bit5B (fun t => t.testBit 5 .b) s

/-- BIT 5,C (R293). -/
def execBit5C (s : State) : Host.Outcome State Fault Refusal :=
  perform .bit5C (fun t => t.testBit 5 .c) s

/-- BIT 5,D (R293). -/
def execBit5D (s : State) : Host.Outcome State Fault Refusal :=
  perform .bit5D (fun t => t.testBit 5 .d) s

/-- BIT 5,E (R293). -/
def execBit5E (s : State) : Host.Outcome State Fault Refusal :=
  perform .bit5E (fun t => t.testBit 5 .e) s

/-- BIT 5,H (R293). -/
def execBit5H (s : State) : Host.Outcome State Fault Refusal :=
  perform .bit5H (fun t => t.testBit 5 .h) s

/-- BIT 5,L (R293). -/
def execBit5L (s : State) : Host.Outcome State Fault Refusal :=
  perform .bit5L (fun t => t.testBit 5 .l) s

/-- BIT 5,(HL) (R293). -/
def execBit5AtHl (s : State) : Host.Outcome State Fault Refusal :=
  perform .bit5AtHl (fun t => t.testBit 5 .atHl) s

/-- BIT 5,A (R293). -/
def execBit5A (s : State) : Host.Outcome State Fault Refusal :=
  perform .bit5A (fun t => t.testBit 5 .a) s

/-- BIT 6,B (R293). -/
def execBit6B (s : State) : Host.Outcome State Fault Refusal :=
  perform .bit6B (fun t => t.testBit 6 .b) s

/-- BIT 6,C (R293). -/
def execBit6C (s : State) : Host.Outcome State Fault Refusal :=
  perform .bit6C (fun t => t.testBit 6 .c) s

/-- BIT 6,D (R293). -/
def execBit6D (s : State) : Host.Outcome State Fault Refusal :=
  perform .bit6D (fun t => t.testBit 6 .d) s

/-- BIT 6,E (R293). -/
def execBit6E (s : State) : Host.Outcome State Fault Refusal :=
  perform .bit6E (fun t => t.testBit 6 .e) s

/-- BIT 6,H (R293). -/
def execBit6H (s : State) : Host.Outcome State Fault Refusal :=
  perform .bit6H (fun t => t.testBit 6 .h) s

/-- BIT 6,L (R293). -/
def execBit6L (s : State) : Host.Outcome State Fault Refusal :=
  perform .bit6L (fun t => t.testBit 6 .l) s

/-- BIT 6,(HL) (R293). -/
def execBit6AtHl (s : State) : Host.Outcome State Fault Refusal :=
  perform .bit6AtHl (fun t => t.testBit 6 .atHl) s

/-- BIT 6,A (R293). -/
def execBit6A (s : State) : Host.Outcome State Fault Refusal :=
  perform .bit6A (fun t => t.testBit 6 .a) s

/-- BIT 7,B (R293). -/
def execBit7B (s : State) : Host.Outcome State Fault Refusal :=
  perform .bit7B (fun t => t.testBit 7 .b) s

/-- BIT 7,C (R293). -/
def execBit7C (s : State) : Host.Outcome State Fault Refusal :=
  perform .bit7C (fun t => t.testBit 7 .c) s

/-- BIT 7,D (R293). -/
def execBit7D (s : State) : Host.Outcome State Fault Refusal :=
  perform .bit7D (fun t => t.testBit 7 .d) s

/-- BIT 7,E (R293). -/
def execBit7E (s : State) : Host.Outcome State Fault Refusal :=
  perform .bit7E (fun t => t.testBit 7 .e) s

/-- BIT 7,H (R293). -/
def execBit7H (s : State) : Host.Outcome State Fault Refusal :=
  perform .bit7H (fun t => t.testBit 7 .h) s

/-- BIT 7,L (R293). -/
def execBit7L (s : State) : Host.Outcome State Fault Refusal :=
  perform .bit7L (fun t => t.testBit 7 .l) s

/-- BIT 7,(HL) (R293). -/
def execBit7AtHl (s : State) : Host.Outcome State Fault Refusal :=
  perform .bit7AtHl (fun t => t.testBit 7 .atHl) s

/-- BIT 7,A (R293). -/
def execBit7A (s : State) : Host.Outcome State Fault Refusal :=
  perform .bit7A (fun t => t.testBit 7 .a) s

/-- RES 0,B (R294). -/
def execRes0B (s : State) : Host.Outcome State Fault Refusal :=
  perform .res0B (fun t => t.resetBit 0 .b) s

/-- RES 0,C (R294). -/
def execRes0C (s : State) : Host.Outcome State Fault Refusal :=
  perform .res0C (fun t => t.resetBit 0 .c) s

/-- RES 0,D (R294). -/
def execRes0D (s : State) : Host.Outcome State Fault Refusal :=
  perform .res0D (fun t => t.resetBit 0 .d) s

/-- RES 0,E (R294). -/
def execRes0E (s : State) : Host.Outcome State Fault Refusal :=
  perform .res0E (fun t => t.resetBit 0 .e) s

/-- RES 0,H (R294). -/
def execRes0H (s : State) : Host.Outcome State Fault Refusal :=
  perform .res0H (fun t => t.resetBit 0 .h) s

/-- RES 0,L (R294). -/
def execRes0L (s : State) : Host.Outcome State Fault Refusal :=
  perform .res0L (fun t => t.resetBit 0 .l) s

/-- RES 0,(HL) (R294). -/
def execRes0AtHl (s : State) : Host.Outcome State Fault Refusal :=
  perform .res0AtHl (fun t => t.resetBit 0 .atHl) s

/-- RES 0,A (R294). -/
def execRes0A (s : State) : Host.Outcome State Fault Refusal :=
  perform .res0A (fun t => t.resetBit 0 .a) s

/-- RES 1,B (R294). -/
def execRes1B (s : State) : Host.Outcome State Fault Refusal :=
  perform .res1B (fun t => t.resetBit 1 .b) s

/-- RES 1,C (R294). -/
def execRes1C (s : State) : Host.Outcome State Fault Refusal :=
  perform .res1C (fun t => t.resetBit 1 .c) s

/-- RES 1,D (R294). -/
def execRes1D (s : State) : Host.Outcome State Fault Refusal :=
  perform .res1D (fun t => t.resetBit 1 .d) s

/-- RES 1,E (R294). -/
def execRes1E (s : State) : Host.Outcome State Fault Refusal :=
  perform .res1E (fun t => t.resetBit 1 .e) s

/-- RES 1,H (R294). -/
def execRes1H (s : State) : Host.Outcome State Fault Refusal :=
  perform .res1H (fun t => t.resetBit 1 .h) s

/-- RES 1,L (R294). -/
def execRes1L (s : State) : Host.Outcome State Fault Refusal :=
  perform .res1L (fun t => t.resetBit 1 .l) s

/-- RES 1,(HL) (R294). -/
def execRes1AtHl (s : State) : Host.Outcome State Fault Refusal :=
  perform .res1AtHl (fun t => t.resetBit 1 .atHl) s

/-- RES 1,A (R294). -/
def execRes1A (s : State) : Host.Outcome State Fault Refusal :=
  perform .res1A (fun t => t.resetBit 1 .a) s

/-- RES 2,B (R294). -/
def execRes2B (s : State) : Host.Outcome State Fault Refusal :=
  perform .res2B (fun t => t.resetBit 2 .b) s

/-- RES 2,C (R294). -/
def execRes2C (s : State) : Host.Outcome State Fault Refusal :=
  perform .res2C (fun t => t.resetBit 2 .c) s

/-- RES 2,D (R294). -/
def execRes2D (s : State) : Host.Outcome State Fault Refusal :=
  perform .res2D (fun t => t.resetBit 2 .d) s

/-- RES 2,E (R294). -/
def execRes2E (s : State) : Host.Outcome State Fault Refusal :=
  perform .res2E (fun t => t.resetBit 2 .e) s

/-- RES 2,H (R294). -/
def execRes2H (s : State) : Host.Outcome State Fault Refusal :=
  perform .res2H (fun t => t.resetBit 2 .h) s

/-- RES 2,L (R294). -/
def execRes2L (s : State) : Host.Outcome State Fault Refusal :=
  perform .res2L (fun t => t.resetBit 2 .l) s

/-- RES 2,(HL) (R294). -/
def execRes2AtHl (s : State) : Host.Outcome State Fault Refusal :=
  perform .res2AtHl (fun t => t.resetBit 2 .atHl) s

/-- RES 2,A (R294). -/
def execRes2A (s : State) : Host.Outcome State Fault Refusal :=
  perform .res2A (fun t => t.resetBit 2 .a) s

/-- RES 3,B (R294). -/
def execRes3B (s : State) : Host.Outcome State Fault Refusal :=
  perform .res3B (fun t => t.resetBit 3 .b) s

/-- RES 3,C (R294). -/
def execRes3C (s : State) : Host.Outcome State Fault Refusal :=
  perform .res3C (fun t => t.resetBit 3 .c) s

/-- RES 3,D (R294). -/
def execRes3D (s : State) : Host.Outcome State Fault Refusal :=
  perform .res3D (fun t => t.resetBit 3 .d) s

/-- RES 3,E (R294). -/
def execRes3E (s : State) : Host.Outcome State Fault Refusal :=
  perform .res3E (fun t => t.resetBit 3 .e) s

/-- RES 3,H (R294). -/
def execRes3H (s : State) : Host.Outcome State Fault Refusal :=
  perform .res3H (fun t => t.resetBit 3 .h) s

/-- RES 3,L (R294). -/
def execRes3L (s : State) : Host.Outcome State Fault Refusal :=
  perform .res3L (fun t => t.resetBit 3 .l) s

/-- RES 3,(HL) (R294). -/
def execRes3AtHl (s : State) : Host.Outcome State Fault Refusal :=
  perform .res3AtHl (fun t => t.resetBit 3 .atHl) s

/-- RES 3,A (R294). -/
def execRes3A (s : State) : Host.Outcome State Fault Refusal :=
  perform .res3A (fun t => t.resetBit 3 .a) s

/-- RES 4,B (R294). -/
def execRes4B (s : State) : Host.Outcome State Fault Refusal :=
  perform .res4B (fun t => t.resetBit 4 .b) s

/-- RES 4,C (R294). -/
def execRes4C (s : State) : Host.Outcome State Fault Refusal :=
  perform .res4C (fun t => t.resetBit 4 .c) s

/-- RES 4,D (R294). -/
def execRes4D (s : State) : Host.Outcome State Fault Refusal :=
  perform .res4D (fun t => t.resetBit 4 .d) s

/-- RES 4,E (R294). -/
def execRes4E (s : State) : Host.Outcome State Fault Refusal :=
  perform .res4E (fun t => t.resetBit 4 .e) s

/-- RES 4,H (R294). -/
def execRes4H (s : State) : Host.Outcome State Fault Refusal :=
  perform .res4H (fun t => t.resetBit 4 .h) s

/-- RES 4,L (R294). -/
def execRes4L (s : State) : Host.Outcome State Fault Refusal :=
  perform .res4L (fun t => t.resetBit 4 .l) s

/-- RES 4,(HL) (R294). -/
def execRes4AtHl (s : State) : Host.Outcome State Fault Refusal :=
  perform .res4AtHl (fun t => t.resetBit 4 .atHl) s

/-- RES 4,A (R294). -/
def execRes4A (s : State) : Host.Outcome State Fault Refusal :=
  perform .res4A (fun t => t.resetBit 4 .a) s

/-- RES 5,B (R294). -/
def execRes5B (s : State) : Host.Outcome State Fault Refusal :=
  perform .res5B (fun t => t.resetBit 5 .b) s

/-- RES 5,C (R294). -/
def execRes5C (s : State) : Host.Outcome State Fault Refusal :=
  perform .res5C (fun t => t.resetBit 5 .c) s

/-- RES 5,D (R294). -/
def execRes5D (s : State) : Host.Outcome State Fault Refusal :=
  perform .res5D (fun t => t.resetBit 5 .d) s

/-- RES 5,E (R294). -/
def execRes5E (s : State) : Host.Outcome State Fault Refusal :=
  perform .res5E (fun t => t.resetBit 5 .e) s

/-- RES 5,H (R294). -/
def execRes5H (s : State) : Host.Outcome State Fault Refusal :=
  perform .res5H (fun t => t.resetBit 5 .h) s

/-- RES 5,L (R294). -/
def execRes5L (s : State) : Host.Outcome State Fault Refusal :=
  perform .res5L (fun t => t.resetBit 5 .l) s

/-- RES 5,(HL) (R294). -/
def execRes5AtHl (s : State) : Host.Outcome State Fault Refusal :=
  perform .res5AtHl (fun t => t.resetBit 5 .atHl) s

/-- RES 5,A (R294). -/
def execRes5A (s : State) : Host.Outcome State Fault Refusal :=
  perform .res5A (fun t => t.resetBit 5 .a) s

/-- RES 6,B (R294). -/
def execRes6B (s : State) : Host.Outcome State Fault Refusal :=
  perform .res6B (fun t => t.resetBit 6 .b) s

/-- RES 6,C (R294). -/
def execRes6C (s : State) : Host.Outcome State Fault Refusal :=
  perform .res6C (fun t => t.resetBit 6 .c) s

/-- RES 6,D (R294). -/
def execRes6D (s : State) : Host.Outcome State Fault Refusal :=
  perform .res6D (fun t => t.resetBit 6 .d) s

/-- RES 6,E (R294). -/
def execRes6E (s : State) : Host.Outcome State Fault Refusal :=
  perform .res6E (fun t => t.resetBit 6 .e) s

/-- RES 6,H (R294). -/
def execRes6H (s : State) : Host.Outcome State Fault Refusal :=
  perform .res6H (fun t => t.resetBit 6 .h) s

/-- RES 6,L (R294). -/
def execRes6L (s : State) : Host.Outcome State Fault Refusal :=
  perform .res6L (fun t => t.resetBit 6 .l) s

/-- RES 6,(HL) (R294). -/
def execRes6AtHl (s : State) : Host.Outcome State Fault Refusal :=
  perform .res6AtHl (fun t => t.resetBit 6 .atHl) s

/-- RES 6,A (R294). -/
def execRes6A (s : State) : Host.Outcome State Fault Refusal :=
  perform .res6A (fun t => t.resetBit 6 .a) s

/-- RES 7,B (R294). -/
def execRes7B (s : State) : Host.Outcome State Fault Refusal :=
  perform .res7B (fun t => t.resetBit 7 .b) s

/-- RES 7,C (R294). -/
def execRes7C (s : State) : Host.Outcome State Fault Refusal :=
  perform .res7C (fun t => t.resetBit 7 .c) s

/-- RES 7,D (R294). -/
def execRes7D (s : State) : Host.Outcome State Fault Refusal :=
  perform .res7D (fun t => t.resetBit 7 .d) s

/-- RES 7,E (R294). -/
def execRes7E (s : State) : Host.Outcome State Fault Refusal :=
  perform .res7E (fun t => t.resetBit 7 .e) s

/-- RES 7,H (R294). -/
def execRes7H (s : State) : Host.Outcome State Fault Refusal :=
  perform .res7H (fun t => t.resetBit 7 .h) s

/-- RES 7,L (R294). -/
def execRes7L (s : State) : Host.Outcome State Fault Refusal :=
  perform .res7L (fun t => t.resetBit 7 .l) s

/-- RES 7,(HL) (R294). -/
def execRes7AtHl (s : State) : Host.Outcome State Fault Refusal :=
  perform .res7AtHl (fun t => t.resetBit 7 .atHl) s

/-- RES 7,A (R294). -/
def execRes7A (s : State) : Host.Outcome State Fault Refusal :=
  perform .res7A (fun t => t.resetBit 7 .a) s

/-- SET 0,B (R295). -/
def execSet0B (s : State) : Host.Outcome State Fault Refusal :=
  perform .set0B (fun t => t.setBit 0 .b) s

/-- SET 0,C (R295). -/
def execSet0C (s : State) : Host.Outcome State Fault Refusal :=
  perform .set0C (fun t => t.setBit 0 .c) s

/-- SET 0,D (R295). -/
def execSet0D (s : State) : Host.Outcome State Fault Refusal :=
  perform .set0D (fun t => t.setBit 0 .d) s

/-- SET 0,E (R295). -/
def execSet0E (s : State) : Host.Outcome State Fault Refusal :=
  perform .set0E (fun t => t.setBit 0 .e) s

/-- SET 0,H (R295). -/
def execSet0H (s : State) : Host.Outcome State Fault Refusal :=
  perform .set0H (fun t => t.setBit 0 .h) s

/-- SET 0,L (R295). -/
def execSet0L (s : State) : Host.Outcome State Fault Refusal :=
  perform .set0L (fun t => t.setBit 0 .l) s

/-- SET 0,(HL) (R295). -/
def execSet0AtHl (s : State) : Host.Outcome State Fault Refusal :=
  perform .set0AtHl (fun t => t.setBit 0 .atHl) s

/-- SET 0,A (R295). -/
def execSet0A (s : State) : Host.Outcome State Fault Refusal :=
  perform .set0A (fun t => t.setBit 0 .a) s

/-- SET 1,B (R295). -/
def execSet1B (s : State) : Host.Outcome State Fault Refusal :=
  perform .set1B (fun t => t.setBit 1 .b) s

/-- SET 1,C (R295). -/
def execSet1C (s : State) : Host.Outcome State Fault Refusal :=
  perform .set1C (fun t => t.setBit 1 .c) s

/-- SET 1,D (R295). -/
def execSet1D (s : State) : Host.Outcome State Fault Refusal :=
  perform .set1D (fun t => t.setBit 1 .d) s

/-- SET 1,E (R295). -/
def execSet1E (s : State) : Host.Outcome State Fault Refusal :=
  perform .set1E (fun t => t.setBit 1 .e) s

/-- SET 1,H (R295). -/
def execSet1H (s : State) : Host.Outcome State Fault Refusal :=
  perform .set1H (fun t => t.setBit 1 .h) s

/-- SET 1,L (R295). -/
def execSet1L (s : State) : Host.Outcome State Fault Refusal :=
  perform .set1L (fun t => t.setBit 1 .l) s

/-- SET 1,(HL) (R295). -/
def execSet1AtHl (s : State) : Host.Outcome State Fault Refusal :=
  perform .set1AtHl (fun t => t.setBit 1 .atHl) s

/-- SET 1,A (R295). -/
def execSet1A (s : State) : Host.Outcome State Fault Refusal :=
  perform .set1A (fun t => t.setBit 1 .a) s

/-- SET 2,B (R295). -/
def execSet2B (s : State) : Host.Outcome State Fault Refusal :=
  perform .set2B (fun t => t.setBit 2 .b) s

/-- SET 2,C (R295). -/
def execSet2C (s : State) : Host.Outcome State Fault Refusal :=
  perform .set2C (fun t => t.setBit 2 .c) s

/-- SET 2,D (R295). -/
def execSet2D (s : State) : Host.Outcome State Fault Refusal :=
  perform .set2D (fun t => t.setBit 2 .d) s

/-- SET 2,E (R295). -/
def execSet2E (s : State) : Host.Outcome State Fault Refusal :=
  perform .set2E (fun t => t.setBit 2 .e) s

/-- SET 2,H (R295). -/
def execSet2H (s : State) : Host.Outcome State Fault Refusal :=
  perform .set2H (fun t => t.setBit 2 .h) s

/-- SET 2,L (R295). -/
def execSet2L (s : State) : Host.Outcome State Fault Refusal :=
  perform .set2L (fun t => t.setBit 2 .l) s

/-- SET 2,(HL) (R295). -/
def execSet2AtHl (s : State) : Host.Outcome State Fault Refusal :=
  perform .set2AtHl (fun t => t.setBit 2 .atHl) s

/-- SET 2,A (R295). -/
def execSet2A (s : State) : Host.Outcome State Fault Refusal :=
  perform .set2A (fun t => t.setBit 2 .a) s

/-- SET 3,B (R295). -/
def execSet3B (s : State) : Host.Outcome State Fault Refusal :=
  perform .set3B (fun t => t.setBit 3 .b) s

/-- SET 3,C (R295). -/
def execSet3C (s : State) : Host.Outcome State Fault Refusal :=
  perform .set3C (fun t => t.setBit 3 .c) s

/-- SET 3,D (R295). -/
def execSet3D (s : State) : Host.Outcome State Fault Refusal :=
  perform .set3D (fun t => t.setBit 3 .d) s

/-- SET 3,E (R295). -/
def execSet3E (s : State) : Host.Outcome State Fault Refusal :=
  perform .set3E (fun t => t.setBit 3 .e) s

/-- SET 3,H (R295). -/
def execSet3H (s : State) : Host.Outcome State Fault Refusal :=
  perform .set3H (fun t => t.setBit 3 .h) s

/-- SET 3,L (R295). -/
def execSet3L (s : State) : Host.Outcome State Fault Refusal :=
  perform .set3L (fun t => t.setBit 3 .l) s

/-- SET 3,(HL) (R295). -/
def execSet3AtHl (s : State) : Host.Outcome State Fault Refusal :=
  perform .set3AtHl (fun t => t.setBit 3 .atHl) s

/-- SET 3,A (R295). -/
def execSet3A (s : State) : Host.Outcome State Fault Refusal :=
  perform .set3A (fun t => t.setBit 3 .a) s

/-- SET 4,B (R295). -/
def execSet4B (s : State) : Host.Outcome State Fault Refusal :=
  perform .set4B (fun t => t.setBit 4 .b) s

/-- SET 4,C (R295). -/
def execSet4C (s : State) : Host.Outcome State Fault Refusal :=
  perform .set4C (fun t => t.setBit 4 .c) s

/-- SET 4,D (R295). -/
def execSet4D (s : State) : Host.Outcome State Fault Refusal :=
  perform .set4D (fun t => t.setBit 4 .d) s

/-- SET 4,E (R295). -/
def execSet4E (s : State) : Host.Outcome State Fault Refusal :=
  perform .set4E (fun t => t.setBit 4 .e) s

/-- SET 4,H (R295). -/
def execSet4H (s : State) : Host.Outcome State Fault Refusal :=
  perform .set4H (fun t => t.setBit 4 .h) s

/-- SET 4,L (R295). -/
def execSet4L (s : State) : Host.Outcome State Fault Refusal :=
  perform .set4L (fun t => t.setBit 4 .l) s

/-- SET 4,(HL) (R295). -/
def execSet4AtHl (s : State) : Host.Outcome State Fault Refusal :=
  perform .set4AtHl (fun t => t.setBit 4 .atHl) s

/-- SET 4,A (R295). -/
def execSet4A (s : State) : Host.Outcome State Fault Refusal :=
  perform .set4A (fun t => t.setBit 4 .a) s

/-- SET 5,B (R295). -/
def execSet5B (s : State) : Host.Outcome State Fault Refusal :=
  perform .set5B (fun t => t.setBit 5 .b) s

/-- SET 5,C (R295). -/
def execSet5C (s : State) : Host.Outcome State Fault Refusal :=
  perform .set5C (fun t => t.setBit 5 .c) s

/-- SET 5,D (R295). -/
def execSet5D (s : State) : Host.Outcome State Fault Refusal :=
  perform .set5D (fun t => t.setBit 5 .d) s

/-- SET 5,E (R295). -/
def execSet5E (s : State) : Host.Outcome State Fault Refusal :=
  perform .set5E (fun t => t.setBit 5 .e) s

/-- SET 5,H (R295). -/
def execSet5H (s : State) : Host.Outcome State Fault Refusal :=
  perform .set5H (fun t => t.setBit 5 .h) s

/-- SET 5,L (R295). -/
def execSet5L (s : State) : Host.Outcome State Fault Refusal :=
  perform .set5L (fun t => t.setBit 5 .l) s

/-- SET 5,(HL) (R295). -/
def execSet5AtHl (s : State) : Host.Outcome State Fault Refusal :=
  perform .set5AtHl (fun t => t.setBit 5 .atHl) s

/-- SET 5,A (R295). -/
def execSet5A (s : State) : Host.Outcome State Fault Refusal :=
  perform .set5A (fun t => t.setBit 5 .a) s

/-- SET 6,B (R295). -/
def execSet6B (s : State) : Host.Outcome State Fault Refusal :=
  perform .set6B (fun t => t.setBit 6 .b) s

/-- SET 6,C (R295). -/
def execSet6C (s : State) : Host.Outcome State Fault Refusal :=
  perform .set6C (fun t => t.setBit 6 .c) s

/-- SET 6,D (R295). -/
def execSet6D (s : State) : Host.Outcome State Fault Refusal :=
  perform .set6D (fun t => t.setBit 6 .d) s

/-- SET 6,E (R295). -/
def execSet6E (s : State) : Host.Outcome State Fault Refusal :=
  perform .set6E (fun t => t.setBit 6 .e) s

/-- SET 6,H (R295). -/
def execSet6H (s : State) : Host.Outcome State Fault Refusal :=
  perform .set6H (fun t => t.setBit 6 .h) s

/-- SET 6,L (R295). -/
def execSet6L (s : State) : Host.Outcome State Fault Refusal :=
  perform .set6L (fun t => t.setBit 6 .l) s

/-- SET 6,(HL) (R295). -/
def execSet6AtHl (s : State) : Host.Outcome State Fault Refusal :=
  perform .set6AtHl (fun t => t.setBit 6 .atHl) s

/-- SET 6,A (R295). -/
def execSet6A (s : State) : Host.Outcome State Fault Refusal :=
  perform .set6A (fun t => t.setBit 6 .a) s

/-- SET 7,B (R295). -/
def execSet7B (s : State) : Host.Outcome State Fault Refusal :=
  perform .set7B (fun t => t.setBit 7 .b) s

/-- SET 7,C (R295). -/
def execSet7C (s : State) : Host.Outcome State Fault Refusal :=
  perform .set7C (fun t => t.setBit 7 .c) s

/-- SET 7,D (R295). -/
def execSet7D (s : State) : Host.Outcome State Fault Refusal :=
  perform .set7D (fun t => t.setBit 7 .d) s

/-- SET 7,E (R295). -/
def execSet7E (s : State) : Host.Outcome State Fault Refusal :=
  perform .set7E (fun t => t.setBit 7 .e) s

/-- SET 7,H (R295). -/
def execSet7H (s : State) : Host.Outcome State Fault Refusal :=
  perform .set7H (fun t => t.setBit 7 .h) s

/-- SET 7,L (R295). -/
def execSet7L (s : State) : Host.Outcome State Fault Refusal :=
  perform .set7L (fun t => t.setBit 7 .l) s

/-- SET 7,(HL) (R295). -/
def execSet7AtHl (s : State) : Host.Outcome State Fault Refusal :=
  perform .set7AtHl (fun t => t.setBit 7 .atHl) s

/-- SET 7,A (R295). -/
def execSet7A (s : State) : Host.Outcome State Fault Refusal :=
  perform .set7A (fun t => t.setBit 7 .a) s

end Sys2Proof.Machine
end

