-- ==== Sys2Proof/Machine/System.lean ====
section
/-! DEFINITION. System and control instructions (45_system.md R260 to R267): the shared rules, then one meaning per instruction. No flag is written. -/

namespace Sys2Proof.Machine

/-- DI and EI: write the interrupt-master-enable flag at once (R261, R262). -/
def State.setIme (s : State) (v : Bool) : State := { s with ime := v }

/-- STOP and HALT: the core stops running, with PC past the instruction (R263, R265). -/
def State.setRun (s : State) (r : RunState) : State := { s with run := r }

/-- NOP (R260). -/
def execNop (s : State) : Host.Outcome State Fault Refusal :=
  perform .nop (fun t => t) s

/-- STOP (R263). -/
def execStop (ignored : Byte) (s : State) : Host.Outcome State Fault Refusal :=
  perform (.stop ignored) (fun t => t.setRun .stopped) s

/-- HALT (R265). -/
def execHalt (s : State) : Host.Outcome State Fault Refusal :=
  perform .halt (fun t => t.setRun .halted) s

/-- PREFIX CB with its second byte: the prefixed instruction, and in CORE UnsupportedOpcode with both bytes (R266). -/
def execPrefixCb (op2 : Byte) (s : State) : Host.Outcome State Fault Refusal :=
  perform (decodePrefixed op2) (fun t => t.prefixedRule op2) s

/-- An opcode without a descriptor: IllegalOpcode is raised (R267, R301). -/
def execIllegal (op : Byte) (s : State) : Host.Outcome State Fault Refusal :=
  perform (.illegal op) (fun t => t) s

/-- DI (R261). -/
def execDi (s : State) : Host.Outcome State Fault Refusal :=
  perform .di (fun t => t.setIme false) s

/-- EI (R262). -/
def execEi (s : State) : Host.Outcome State Fault Refusal :=
  perform .ei (fun t => t.setIme true) s

end Sys2Proof.Machine
end

