-- ==== Sys2Proof/Machine/Step.lean ====
section
/-! DEFINITION. One step of the machine (30_encoding.md R137, 60_exceptions.md R306), and the placing of an instruction where the next step fetches it. -/

namespace Sys2Proof.Machine

/-- One `step()`. A core without a cartridge has no move (R315). A recorded fault is returned again (R305). A core that does not run makes no progress and changes nothing (R32, R314). Any other step fetches one instruction and executes it (R137); a fault it raises is recorded in the next state (R304). -/
def step (s : State) : Host.Outcome State Fault Refusal :=
  if s.cart = .absent then .refused .noCartridge
  else
    match s.fault with
    | some f => .fault f
    | none =>
      match s.run with
      | .running => exec s.fetchInstr s
      | .stopped => .next s
      | .halted => .next s

/-- The state with the instruction whose bits are `w`, `nbits` of them, where the next step fetches (R133). A core without a cartridge gets one, which stands for the host's `loadCartridge` (R315, R341; log entry 7). -/
def State.withFetchWord (s : State) (nbits w : Nat) : State :=
  s.readyToFetch.placeAtPc ((tableBytes nbits (w % 2 ^ nbits)).getD 0 0) ((tableBytes nbits (w % 2 ^ nbits)).getD 1 0)
    ((tableBytes nbits (w % 2 ^ nbits)).getD 2 0)

end Sys2Proof.Machine
end

