-- ==== Sys2Proof/Safety.lean ====
section
/-! DEFINITION. The terms in which claims speak of a state and a run: what a step answers to the host (60_exceptions.md R315), how a run ends (R316), when two addresses are the same storage byte (20_memory.md R65), and the invariants of the state. -/

namespace Sys2Proof

open Machine in
/-- Whether an instruction executes in a profile (R136). -/
def Instr.implemented (i : Instr) (p : Profile) : Bool :=
  match i.descriptor with
  | none => false
  | some d => d.implemented p

end Sys2Proof

namespace Sys2Proof.Machine

/-- What `step()` answers to the host (R137, R315). -/
inductive StepResult where
  | ok
  | noProgress
  | error (f : Fault)
deriving DecidableEq, Repr

/-- The answer of one `step()` and the state it leaves; none where the host has no move (R306, R315). A step that raises a fault and every later one answer `error` (R304, R305). -/
def State.hostStep (s : State) : Option (StepResult × State) :=
  if s.cart = .absent then none
  else
    match s.fault with
    | some f => some (.error f, s)
    | none =>
      match s.run with
      | .running =>
        match exec s.fetchInstr s with
        | .next t =>
          match t.fault with
          | some f => some (.error f, t)
          | none => some (.ok, t)
        | .fault _ => none
        | .refused _ => none
      | .stopped => some (.noProgress, s)
      | .halted => some (.noProgress, s)

/-- A state whose next step executes or faults: loaded, not faulted, running (R306, R342). -/
def State.ready (s : State) : Prop := s.cart ≠ .absent ∧ s.fault = none ∧ s.run = .running

/-- A run that has ended without a fault (R316). -/
def State.completed (s : State) : Prop := s.fault = none ∧ s.run ≠ .running

/-- Two addresses of the same storage byte, echo included (R65). -/
def sameByte (a b : Word) : Prop := unecho a = unecho b

/-- The external RAM cell of an address in the RAM window (R86). -/
def State.ramCell (s : State) (a : Word) : Nat :=
  match s.cart with
  | .absent => a.toNat
  | .noBanking _ => a.toNat
  | .bankSwitching _ m => m.ramIndex s.cfg a

/-- Whether a store at `p` can change what a read at `q` gives (R62, R89): a store to an array, the same byte, and for 0xFF46 the sprite table too (R75); a store to external RAM, the same cell; a store to a bank register, the cartridge's windows; a store to the unusable region, nothing (R67). -/
def State.mayChange (s : State) (p q : Word) : Prop :=
  match locate p with
  | .rom => ∃ rom m, s.cart = .bankSwitching rom m ∧ (locate q = .rom ∨ locate q = .extRam)
  | .array st i => sameByte p q ∨ (st = .io ∧ i = 0x46 ∧ ∃ k, locate q = .array .oam k)
  | .extRam => locate q = .extRam ∧ s.ramCell p = s.ramCell q
  | .unusable => False

/-- An address of one of the memory arrays whose write has no side effect (R70, R89): video RAM, work RAM and its echo, the sprite table, the plain I/O bytes, high RAM. -/
def plainStorage (a : Word) : Bool :=
  match locate a with
  | .array .io i => i != 0x0F && i != 0x04 && i != 0x44 && i != 0x46
  | .array .vram _ => true
  | .array .wram0 _ => true
  | .array .wram1 _ => true
  | .array .oam _ => true
  | .array .hram _ => true
  | .rom => false
  | .extRam => false
  | .unusable => false

/-- An image in canonical form, no cell past its length. -/
def Rom.wf (rom : Rom) : Bool := rom.cells.wf && rom.cells.within rom.len

/-- A cartridge whose image and external RAM are in canonical form and within their sizes. -/
def Cart.wf (cfg : Config) (cart : Cart) : Bool :=
  match cart with
  | .absent => true
  | .noBanking rom => rom.wf
  | .bankSwitching rom m => rom.wf && m.eram.wf && m.eram.within cfg.extRamSize

/-- Every memory is in canonical form and within its size, external RAM having a positive size (R34, R35, R86). -/
structure State.memoryWf (s : State) : Prop where
  arrays : ∀ st : Store, (s.array st).wf = true ∧ (s.array st).within st.size = true
  extRam : 0 < s.cfg.extRamSize
  cart : s.cart.wf s.cfg = true

/-- The low nibble of F reads zero (R22). -/
def State.flagsClean (s : State) : Prop := s.f &&& 0x0F = 0

/-- The address that a recorded fault names. -/
def Fault.pc (f : Fault) : Word :=
  match f with
  | .illegalOpcode info => info.pc
  | .unsupportedOpcode info => info.pc

/-- A recorded fault names the address at which PC was left (R304). -/
def State.faultAtPc (s : State) : Prop := ∀ f, s.fault = some f → f.pc = s.pc

/-- `lastDecoded` is none or the descriptor of some instruction (R33). -/
def State.decodedKnown (s : State) : Prop := s.lastDecoded = none ∨ ∃ i : Instr, s.lastDecoded = i.descriptor

end Sys2Proof.Machine
end

