-- ==== Sys2Proof/Forms.lean ====
section
/-! DEFINITION. The vocabulary of the claims: the forms of each instruction family with the bytes the spec gives them, the state past an instruction, the flags of a byte, and the arithmetic of the rotates and shifts on numbers. -/

namespace Sys2Proof

/-- A condition of a flags byte (R200): Z is bit 7 and C is bit 4. -/
def Cond.holds (cc : Cond) (f : Byte) : Bool :=
  match cc with
  | .nz => f.getLsbD 7 == false
  | .z => f.getLsbD 7 == true
  | .nc => f.getLsbD 4 == false
  | .c => f.getLsbD 4 == true

/-- A flag policy's claim about one flag before and after (R132). -/
def FlagEffect.holds (e : FlagEffect) (before after : Bool) : Prop :=
  match e with
  | .reset => after = false
  | .set => after = true
  | .unaffected => after = before
  | .depends => True

end Sys2Proof

namespace Sys2Proof.Machine

/-- The state past an instruction of `len` bytes (R137, R138): PC moved, `lastDecoded` written, nothing else. -/
def State.past (s : State) (i : Instr) (len : Nat) : State :=
  { s with pc := s.pc + BitVec.ofNat 16 len, lastDecoded := i.descriptor }

/-- The state after UnsupportedOpcode (R302, R304): the fault is recorded, nothing else is written. -/
def State.unsupported (s : State) (bytes : List Byte) (prefixed : Bool) : State :=
  { s with fault := some (.unsupportedOpcode ⟨s.pc, bytes, prefixed⟩) }

/-- The flags of a byte, bit by bit, and its low nibble zero (R22). -/
def FlagsAre (f : Byte) (z n h c : Bool) : Prop :=
  f.getLsbD 7 = z ∧ f.getLsbD 6 = n ∧ f.getLsbD 5 = h ∧ f.getLsbD 4 = c ∧ f &&& 0x0F = 0

/-- The rotates and shifts on numbers (R285 to R292): the result of `v` with carry `cin`, and the carry out. -/
def shiftNumber (op : ShiftOp) (v cin : Nat) : Nat × Bool :=
  match op with
  | .rlc => ((2 * v) % 256 + v / 128, decide (128 ≤ v))
  | .rrc => (v / 2 + 128 * (v % 2), decide (v % 2 = 1))
  | .rl => ((2 * v) % 256 + cin, decide (128 ≤ v))
  | .rr => (v / 2 + 128 * cin, decide (v % 2 = 1))
  | .sla => ((2 * v) % 256, decide (128 ≤ v))
  | .sra => (v / 2 + 128 * (v / 128), decide (v % 2 = 1))
  | .swap => (16 * (v % 16) + v / 16, false)
  | .srl => (v / 2, decide (v % 2 = 1))

/-- The image a cartridge holds (R35). -/
def Cart.image (cart : Cart) : Option Rom :=
  match cart with
  | .absent => none
  | .noBanking rom => some rom
  | .bankSwitching rom _ => some rom

/-- Whether a cartridge is of the bank-switching kind (R35). -/
def Cart.banked (cart : Cart) : Bool :=
  match cart with
  | .absent => false
  | .noBanking _ => false
  | .bankSwitching _ _ => true

/-- ADD A,r and ADD A,(HL), with opcode and operand (R155, R156). -/
def Forms.addR : List (Byte × Instr × R8) :=
  [(0x80, .addAB, .b), (0x81, .addAC, .c), (0x82, .addAD, .d), (0x83, .addAE, .e), (0x84, .addAH, .h), (0x85, .addAL, .l),
   (0x86, .addAAtHl, .atHl), (0x87, .addAA, .a)]

/-- ADC A,r and ADC A,(HL) (R158, R159). -/
def Forms.adcR : List (Byte × Instr × R8) :=
  [(0x88, .adcAB, .b), (0x89, .adcAC, .c), (0x8A, .adcAD, .d), (0x8B, .adcAE, .e), (0x8C, .adcAH, .h), (0x8D, .adcAL, .l),
   (0x8E, .adcAAtHl, .atHl), (0x8F, .adcAA, .a)]

/-- SUB A,r and SUB A,(HL) (R161, R162). -/
def Forms.subR : List (Byte × Instr × R8) :=
  [(0x90, .subAB, .b), (0x91, .subAC, .c), (0x92, .subAD, .d), (0x93, .subAE, .e), (0x94, .subAH, .h), (0x95, .subAL, .l),
   (0x96, .subAAtHl, .atHl), (0x97, .subAA, .a)]

/-- SBC A,r and SBC A,(HL) (R164, R165). -/
def Forms.sbcR : List (Byte × Instr × R8) :=
  [(0x98, .sbcAB, .b), (0x99, .sbcAC, .c), (0x9A, .sbcAD, .d), (0x9B, .sbcAE, .e), (0x9C, .sbcAH, .h), (0x9D, .sbcAL, .l),
   (0x9E, .sbcAAtHl, .atHl), (0x9F, .sbcAA, .a)]

/-- AND A,r and AND A,(HL) (R167, R168). -/
def Forms.andR : List (Byte × Instr × R8) :=
  [(0xA0, .andAB, .b), (0xA1, .andAC, .c), (0xA2, .andAD, .d), (0xA3, .andAE, .e), (0xA4, .andAH, .h), (0xA5, .andAL, .l),
   (0xA6, .andAAtHl, .atHl), (0xA7, .andAA, .a)]

/-- XOR A,r and XOR A,(HL) (R170, R171). -/
def Forms.xorR : List (Byte × Instr × R8) :=
  [(0xA8, .xorAB, .b), (0xA9, .xorAC, .c), (0xAA, .xorAD, .d), (0xAB, .xorAE, .e), (0xAC, .xorAH, .h), (0xAD, .xorAL, .l),
   (0xAE, .xorAAtHl, .atHl), (0xAF, .xorAA, .a)]

/-- OR A,r and OR A,(HL) (R173, R174). -/
def Forms.orR : List (Byte × Instr × R8) :=
  [(0xB0, .orAB, .b), (0xB1, .orAC, .c), (0xB2, .orAD, .d), (0xB3, .orAE, .e), (0xB4, .orAH, .h), (0xB5, .orAL, .l),
   (0xB6, .orAAtHl, .atHl), (0xB7, .orAA, .a)]

/-- CP A,r and CP A,(HL) (R176, R177). -/
def Forms.cpR : List (Byte × Instr × R8) :=
  [(0xB8, .cpAB, .b), (0xB9, .cpAC, .c), (0xBA, .cpAD, .d), (0xBB, .cpAE, .e), (0xBC, .cpAH, .h), (0xBD, .cpAL, .l),
   (0xBE, .cpAAtHl, .atHl), (0xBF, .cpAA, .a)]

/-- INC r and INC (HL) (R179, R180). -/
def Forms.inc8 : List (Byte × Instr × R8) :=
  [(0x04, .incB, .b), (0x0C, .incC, .c), (0x14, .incD, .d), (0x1C, .incE, .e), (0x24, .incH, .h), (0x2C, .incL, .l),
   (0x34, .incAtHl, .atHl), (0x3C, .incA, .a)]

/-- DEC r and DEC (HL) (R181, R182). -/
def Forms.dec8 : List (Byte × Instr × R8) :=
  [(0x05, .decB, .b), (0x0D, .decC, .c), (0x15, .decD, .d), (0x1D, .decE, .e), (0x25, .decH, .h), (0x2D, .decL, .l),
   (0x35, .decAtHl, .atHl), (0x3D, .decA, .a)]

/-- ADD HL,dd (R190). -/
def Forms.addHl : List (Byte × Instr × R16) :=
  [(0x09, .addHlBc, .bc), (0x19, .addHlDe, .de), (0x29, .addHlHl, .hl), (0x39, .addHlSp, .sp)]

/-- INC dd (R193). -/
def Forms.inc16 : List (Byte × Instr × R16) :=
  [(0x03, .incBc, .bc), (0x13, .incDe, .de), (0x23, .incHl, .hl), (0x33, .incSp, .sp)]

/-- DEC dd (R194). -/
def Forms.dec16 : List (Byte × Instr × R16) :=
  [(0x0B, .decBc, .bc), (0x1B, .decDe, .de), (0x2B, .decHl, .hl), (0x3B, .decSp, .sp)]

/-- LD dd,n16 (R243). -/
def Forms.ld16 (n16 : Word) : List (Byte × Instr × R16) :=
  [(0x01, .ldBcN16 n16, .bc), (0x11, .ldDeN16 n16, .de), (0x21, .ldHlN16 n16, .hl), (0x31, .ldSpN16 n16, .sp)]

/-- JP cc,a16 (R202). -/
def Forms.jpCc (a16 : Word) : List (Byte × Instr × Cond) :=
  [(0xC2, .jpNzA16 a16, .nz), (0xCA, .jpZA16 a16, .z), (0xD2, .jpNcA16 a16, .nc), (0xDA, .jpCA16 a16, .c)]

/-- JR cc,e8 (R205). -/
def Forms.jrCc (e8 : Byte) : List (Byte × Instr × Cond) :=
  [(0x20, .jrNzE8 e8, .nz), (0x28, .jrZE8 e8, .z), (0x30, .jrNcE8 e8, .nc), (0x38, .jrCE8 e8, .c)]

/-- CALL cc,a16 (R207). -/
def Forms.callCc (a16 : Word) : List (Byte × Instr × Cond) :=
  [(0xC4, .callNzA16 a16, .nz), (0xCC, .callZA16 a16, .z), (0xD4, .callNcA16 a16, .nc), (0xDC, .callCA16 a16, .c)]

/-- RET cc (R209). -/
def Forms.retCc : List (Byte × Instr × Cond) :=
  [(0xC0, .retNz, .nz), (0xC8, .retZ, .z), (0xD0, .retNc, .nc), (0xD8, .retC, .c)]

/-- RST t, with opcode and target (R211). -/
def Forms.rst : List (Byte × Instr × Word) :=
  [(0xC7, .rst00, 0x00), (0xCF, .rst08, 0x08), (0xD7, .rst10, 0x10), (0xDF, .rst18, 0x18), (0xE7, .rst20, 0x20),
   (0xEF, .rst28, 0x28), (0xF7, .rst30, 0x30), (0xFF, .rst38, 0x38)]

/-- LD r,r', LD r,(HL) and LD (HL),r, with opcode, destination and source (R230, R232, R233). -/
def Forms.ld8 : List (Byte × Instr × R8 × R8) :=
  [(0x40, .ldBB, .b, .b), (0x41, .ldBC, .b, .c), (0x42, .ldBD, .b, .d), (0x43, .ldBE, .b, .e), (0x44, .ldBH, .b, .h),
   (0x45, .ldBL, .b, .l), (0x46, .ldBAtHl, .b, .atHl), (0x47, .ldBA, .b, .a), (0x48, .ldCB, .c, .b), (0x49, .ldCC, .c, .c),
   (0x4A, .ldCD, .c, .d), (0x4B, .ldCE, .c, .e), (0x4C, .ldCH, .c, .h), (0x4D, .ldCL, .c, .l), (0x4E, .ldCAtHl, .c, .atHl),
   (0x4F, .ldCA, .c, .a), (0x50, .ldDB, .d, .b), (0x51, .ldDC, .d, .c), (0x52, .ldDD, .d, .d), (0x53, .ldDE, .d, .e),
   (0x54, .ldDH, .d, .h), (0x55, .ldDL, .d, .l), (0x56, .ldDAtHl, .d, .atHl), (0x57, .ldDA, .d, .a), (0x58, .ldEB, .e, .b),
   (0x59, .ldEC, .e, .c), (0x5A, .ldED, .e, .d), (0x5B, .ldEE, .e, .e), (0x5C, .ldEH, .e, .h), (0x5D, .ldEL, .e, .l),
   (0x5E, .ldEAtHl, .e, .atHl), (0x5F, .ldEA, .e, .a), (0x60, .ldHB, .h, .b), (0x61, .ldHC, .h, .c), (0x62, .ldHD, .h, .d),
   (0x63, .ldHE, .h, .e), (0x64, .ldHH, .h, .h), (0x65, .ldHL, .h, .l), (0x66, .ldHAtHl, .h, .atHl), (0x67, .ldHA, .h, .a),
   (0x68, .ldLB, .l, .b), (0x69, .ldLC, .l, .c), (0x6A, .ldLD, .l, .d), (0x6B, .ldLE, .l, .e), (0x6C, .ldLH, .l, .h),
   (0x6D, .ldLL, .l, .l), (0x6E, .ldLAtHl, .l, .atHl), (0x6F, .ldLA, .l, .a), (0x70, .ldAtHlB, .atHl, .b),
   (0x71, .ldAtHlC, .atHl, .c), (0x72, .ldAtHlD, .atHl, .d), (0x73, .ldAtHlE, .atHl, .e), (0x74, .ldAtHlH, .atHl, .h),
   (0x75, .ldAtHlL, .atHl, .l), (0x77, .ldAtHlA, .atHl, .a), (0x78, .ldAB, .a, .b), (0x79, .ldAC, .a, .c), (0x7A, .ldAD, .a, .d),
   (0x7B, .ldAE, .a, .e), (0x7C, .ldAH, .a, .h), (0x7D, .ldAL, .a, .l), (0x7E, .ldAAtHl, .a, .atHl), (0x7F, .ldAA, .a, .a)]

/-- LD r,n8 and LD (HL),n8 (R231, R234). -/
def Forms.ld8Imm (n8 : Byte) : List (Byte × Instr × R8) :=
  [(0x06, .ldBN8 n8, .b), (0x0E, .ldCN8 n8, .c), (0x16, .ldDN8 n8, .d), (0x1E, .ldEN8 n8, .e), (0x26, .ldHN8 n8, .h),
   (0x2E, .ldLN8 n8, .l), (0x36, .ldAtHlN8 n8, .atHl), (0x3E, .ldAN8 n8, .a)]

/-- RLCA, RRCA, RLA, RRA (R280 to R283). -/
def Forms.rotateA : List (Byte × Instr × ShiftOp) :=
  [(0x07, .rlca, .rlc), (0x0F, .rrca, .rrc), (0x17, .rla, .rl), (0x1F, .rra, .rr)]

/-- The prefixed rotates and shifts, with second byte, operation and operand (R285 to R292). -/
def Forms.shift : List (Byte × Instr × ShiftOp × R8) :=
  [(0x00, .rlcB, .rlc, .b), (0x01, .rlcC, .rlc, .c), (0x02, .rlcD, .rlc, .d), (0x03, .rlcE, .rlc, .e), (0x04, .rlcH, .rlc, .h),
   (0x05, .rlcL, .rlc, .l), (0x06, .rlcAtHl, .rlc, .atHl), (0x07, .rlcA, .rlc, .a), (0x08, .rrcB, .rrc, .b),
   (0x09, .rrcC, .rrc, .c), (0x0A, .rrcD, .rrc, .d), (0x0B, .rrcE, .rrc, .e), (0x0C, .rrcH, .rrc, .h), (0x0D, .rrcL, .rrc, .l),
   (0x0E, .rrcAtHl, .rrc, .atHl), (0x0F, .rrcA, .rrc, .a), (0x10, .rlB, .rl, .b), (0x11, .rlC, .rl, .c), (0x12, .rlD, .rl, .d),
   (0x13, .rlE, .rl, .e), (0x14, .rlH, .rl, .h), (0x15, .rlL, .rl, .l), (0x16, .rlAtHl, .rl, .atHl), (0x17, .rlA, .rl, .a),
   (0x18, .rrB, .rr, .b), (0x19, .rrC, .rr, .c), (0x1A, .rrD, .rr, .d), (0x1B, .rrE, .rr, .e), (0x1C, .rrH, .rr, .h),
   (0x1D, .rrL, .rr, .l), (0x1E, .rrAtHl, .rr, .atHl), (0x1F, .rrA, .rr, .a), (0x20, .slaB, .sla, .b), (0x21, .slaC, .sla, .c),
   (0x22, .slaD, .sla, .d), (0x23, .slaE, .sla, .e), (0x24, .slaH, .sla, .h), (0x25, .slaL, .sla, .l),
   (0x26, .slaAtHl, .sla, .atHl), (0x27, .slaA, .sla, .a), (0x28, .sraB, .sra, .b), (0x29, .sraC, .sra, .c),
   (0x2A, .sraD, .sra, .d), (0x2B, .sraE, .sra, .e), (0x2C, .sraH, .sra, .h), (0x2D, .sraL, .sra, .l),
   (0x2E, .sraAtHl, .sra, .atHl), (0x2F, .sraA, .sra, .a), (0x30, .swapB, .swap, .b), (0x31, .swapC, .swap, .c),
   (0x32, .swapD, .swap, .d), (0x33, .swapE, .swap, .e), (0x34, .swapH, .swap, .h), (0x35, .swapL, .swap, .l),
   (0x36, .swapAtHl, .swap, .atHl), (0x37, .swapA, .swap, .a), (0x38, .srlB, .srl, .b), (0x39, .srlC, .srl, .c),
   (0x3A, .srlD, .srl, .d), (0x3B, .srlE, .srl, .e), (0x3C, .srlH, .srl, .h), (0x3D, .srlL, .srl, .l),
   (0x3E, .srlAtHl, .srl, .atHl), (0x3F, .srlA, .srl, .a)]

/-- BIT b,r, with second byte, bit number and operand (R293). -/
def Forms.bit : List (Byte × Instr × Nat × R8) :=
  [(0x40, .bit0B, 0, .b), (0x41, .bit0C, 0, .c), (0x42, .bit0D, 0, .d), (0x43, .bit0E, 0, .e), (0x44, .bit0H, 0, .h),
   (0x45, .bit0L, 0, .l), (0x46, .bit0AtHl, 0, .atHl), (0x47, .bit0A, 0, .a), (0x48, .bit1B, 1, .b), (0x49, .bit1C, 1, .c),
   (0x4A, .bit1D, 1, .d), (0x4B, .bit1E, 1, .e), (0x4C, .bit1H, 1, .h), (0x4D, .bit1L, 1, .l), (0x4E, .bit1AtHl, 1, .atHl),
   (0x4F, .bit1A, 1, .a), (0x50, .bit2B, 2, .b), (0x51, .bit2C, 2, .c), (0x52, .bit2D, 2, .d), (0x53, .bit2E, 2, .e),
   (0x54, .bit2H, 2, .h), (0x55, .bit2L, 2, .l), (0x56, .bit2AtHl, 2, .atHl), (0x57, .bit2A, 2, .a), (0x58, .bit3B, 3, .b),
   (0x59, .bit3C, 3, .c), (0x5A, .bit3D, 3, .d), (0x5B, .bit3E, 3, .e), (0x5C, .bit3H, 3, .h), (0x5D, .bit3L, 3, .l),
   (0x5E, .bit3AtHl, 3, .atHl), (0x5F, .bit3A, 3, .a), (0x60, .bit4B, 4, .b), (0x61, .bit4C, 4, .c), (0x62, .bit4D, 4, .d),
   (0x63, .bit4E, 4, .e), (0x64, .bit4H, 4, .h), (0x65, .bit4L, 4, .l), (0x66, .bit4AtHl, 4, .atHl), (0x67, .bit4A, 4, .a),
   (0x68, .bit5B, 5, .b), (0x69, .bit5C, 5, .c), (0x6A, .bit5D, 5, .d), (0x6B, .bit5E, 5, .e), (0x6C, .bit5H, 5, .h),
   (0x6D, .bit5L, 5, .l), (0x6E, .bit5AtHl, 5, .atHl), (0x6F, .bit5A, 5, .a), (0x70, .bit6B, 6, .b), (0x71, .bit6C, 6, .c),
   (0x72, .bit6D, 6, .d), (0x73, .bit6E, 6, .e), (0x74, .bit6H, 6, .h), (0x75, .bit6L, 6, .l), (0x76, .bit6AtHl, 6, .atHl),
   (0x77, .bit6A, 6, .a), (0x78, .bit7B, 7, .b), (0x79, .bit7C, 7, .c), (0x7A, .bit7D, 7, .d), (0x7B, .bit7E, 7, .e),
   (0x7C, .bit7H, 7, .h), (0x7D, .bit7L, 7, .l), (0x7E, .bit7AtHl, 7, .atHl), (0x7F, .bit7A, 7, .a)]

/-- RES b,r (R294). -/
def Forms.res : List (Byte × Instr × Nat × R8) :=
  [(0x80, .res0B, 0, .b), (0x81, .res0C, 0, .c), (0x82, .res0D, 0, .d), (0x83, .res0E, 0, .e), (0x84, .res0H, 0, .h),
   (0x85, .res0L, 0, .l), (0x86, .res0AtHl, 0, .atHl), (0x87, .res0A, 0, .a), (0x88, .res1B, 1, .b), (0x89, .res1C, 1, .c),
   (0x8A, .res1D, 1, .d), (0x8B, .res1E, 1, .e), (0x8C, .res1H, 1, .h), (0x8D, .res1L, 1, .l), (0x8E, .res1AtHl, 1, .atHl),
   (0x8F, .res1A, 1, .a), (0x90, .res2B, 2, .b), (0x91, .res2C, 2, .c), (0x92, .res2D, 2, .d), (0x93, .res2E, 2, .e),
   (0x94, .res2H, 2, .h), (0x95, .res2L, 2, .l), (0x96, .res2AtHl, 2, .atHl), (0x97, .res2A, 2, .a), (0x98, .res3B, 3, .b),
   (0x99, .res3C, 3, .c), (0x9A, .res3D, 3, .d), (0x9B, .res3E, 3, .e), (0x9C, .res3H, 3, .h), (0x9D, .res3L, 3, .l),
   (0x9E, .res3AtHl, 3, .atHl), (0x9F, .res3A, 3, .a), (0xA0, .res4B, 4, .b), (0xA1, .res4C, 4, .c), (0xA2, .res4D, 4, .d),
   (0xA3, .res4E, 4, .e), (0xA4, .res4H, 4, .h), (0xA5, .res4L, 4, .l), (0xA6, .res4AtHl, 4, .atHl), (0xA7, .res4A, 4, .a),
   (0xA8, .res5B, 5, .b), (0xA9, .res5C, 5, .c), (0xAA, .res5D, 5, .d), (0xAB, .res5E, 5, .e), (0xAC, .res5H, 5, .h),
   (0xAD, .res5L, 5, .l), (0xAE, .res5AtHl, 5, .atHl), (0xAF, .res5A, 5, .a), (0xB0, .res6B, 6, .b), (0xB1, .res6C, 6, .c),
   (0xB2, .res6D, 6, .d), (0xB3, .res6E, 6, .e), (0xB4, .res6H, 6, .h), (0xB5, .res6L, 6, .l), (0xB6, .res6AtHl, 6, .atHl),
   (0xB7, .res6A, 6, .a), (0xB8, .res7B, 7, .b), (0xB9, .res7C, 7, .c), (0xBA, .res7D, 7, .d), (0xBB, .res7E, 7, .e),
   (0xBC, .res7H, 7, .h), (0xBD, .res7L, 7, .l), (0xBE, .res7AtHl, 7, .atHl), (0xBF, .res7A, 7, .a)]

/-- SET b,r (R295). -/
def Forms.set : List (Byte × Instr × Nat × R8) :=
  [(0xC0, .set0B, 0, .b), (0xC1, .set0C, 0, .c), (0xC2, .set0D, 0, .d), (0xC3, .set0E, 0, .e), (0xC4, .set0H, 0, .h),
   (0xC5, .set0L, 0, .l), (0xC6, .set0AtHl, 0, .atHl), (0xC7, .set0A, 0, .a), (0xC8, .set1B, 1, .b), (0xC9, .set1C, 1, .c),
   (0xCA, .set1D, 1, .d), (0xCB, .set1E, 1, .e), (0xCC, .set1H, 1, .h), (0xCD, .set1L, 1, .l), (0xCE, .set1AtHl, 1, .atHl),
   (0xCF, .set1A, 1, .a), (0xD0, .set2B, 2, .b), (0xD1, .set2C, 2, .c), (0xD2, .set2D, 2, .d), (0xD3, .set2E, 2, .e),
   (0xD4, .set2H, 2, .h), (0xD5, .set2L, 2, .l), (0xD6, .set2AtHl, 2, .atHl), (0xD7, .set2A, 2, .a), (0xD8, .set3B, 3, .b),
   (0xD9, .set3C, 3, .c), (0xDA, .set3D, 3, .d), (0xDB, .set3E, 3, .e), (0xDC, .set3H, 3, .h), (0xDD, .set3L, 3, .l),
   (0xDE, .set3AtHl, 3, .atHl), (0xDF, .set3A, 3, .a), (0xE0, .set4B, 4, .b), (0xE1, .set4C, 4, .c), (0xE2, .set4D, 4, .d),
   (0xE3, .set4E, 4, .e), (0xE4, .set4H, 4, .h), (0xE5, .set4L, 4, .l), (0xE6, .set4AtHl, 4, .atHl), (0xE7, .set4A, 4, .a),
   (0xE8, .set5B, 5, .b), (0xE9, .set5C, 5, .c), (0xEA, .set5D, 5, .d), (0xEB, .set5E, 5, .e), (0xEC, .set5H, 5, .h),
   (0xED, .set5L, 5, .l), (0xEE, .set5AtHl, 5, .atHl), (0xEF, .set5A, 5, .a), (0xF0, .set6B, 6, .b), (0xF1, .set6C, 6, .c),
   (0xF2, .set6D, 6, .d), (0xF3, .set6E, 6, .e), (0xF4, .set6H, 6, .h), (0xF5, .set6L, 6, .l), (0xF6, .set6AtHl, 6, .atHl),
   (0xF7, .set6A, 6, .a), (0xF8, .set7B, 7, .b), (0xF9, .set7C, 7, .c), (0xFA, .set7D, 7, .d), (0xFB, .set7E, 7, .e),
   (0xFC, .set7H, 7, .h), (0xFD, .set7L, 7, .l), (0xFE, .set7AtHl, 7, .atHl), (0xFF, .set7A, 7, .a)]

/-- The bus address that a prefixed instruction stores to: HL for the forms on (HL) but BIT (R284, R293); none for any other. -/
def prefixedStores (i : Instr) (s : State) : List Word :=
  match i with
  | .rlcAtHl => [s.hl]
  | .rrcAtHl => [s.hl]
  | .rlAtHl => [s.hl]
  | .rrAtHl => [s.hl]
  | .slaAtHl => [s.hl]
  | .sraAtHl => [s.hl]
  | .swapAtHl => [s.hl]
  | .srlAtHl => [s.hl]
  | .res0AtHl => [s.hl]
  | .res1AtHl => [s.hl]
  | .res2AtHl => [s.hl]
  | .res3AtHl => [s.hl]
  | .res4AtHl => [s.hl]
  | .res5AtHl => [s.hl]
  | .res6AtHl => [s.hl]
  | .res7AtHl => [s.hl]
  | .set0AtHl => [s.hl]
  | .set1AtHl => [s.hl]
  | .set2AtHl => [s.hl]
  | .set3AtHl => [s.hl]
  | .set4AtHl => [s.hl]
  | .set5AtHl => [s.hl]
  | .set6AtHl => [s.hl]
  | .set7AtHl => [s.hl]
  | _ => []

/-- The bus addresses that an instruction stores to, computed as its rule computes them (R180, R182, R206, R207, R211, R222, R233, R234, R237, R238, R241, R242, R244, R246, R248, R250, R284); none for an instruction that stores nothing. `prefixCb` stands for the prefixed instruction of its second byte (R266). -/
def storeAddresses (i : Instr) (s : State) : List Word :=
  match i with
  | .ldAtBcA => [s.bc]
  | .ldAtA16Sp a16 => [a16, a16 + 1]
  | .ldAtDeA => [s.de]
  | .ldAtHlIncA => [s.hl]
  | .ldAtHlDecA => [s.hl]
  | .incAtHl => [s.hl]
  | .decAtHl => [s.hl]
  | .ldAtHlN8 _ => [s.hl]
  | .ldAtHlB => [s.hl]
  | .ldAtHlC => [s.hl]
  | .ldAtHlD => [s.hl]
  | .ldAtHlE => [s.hl]
  | .ldAtHlH => [s.hl]
  | .ldAtHlL => [s.hl]
  | .ldAtHlA => [s.hl]
  | .callNzA16 _ => if s.cond .nz then [s.sp - 2, s.sp - 2 + 1] else []
  | .pushBc => [s.sp - 2, s.sp - 2 + 1]
  | .rst00 => [s.sp - 2, s.sp - 2 + 1]
  | .prefixCb op2 => prefixedStores (decodePrefixed op2) s
  | .callZA16 _ => if s.cond .z then [s.sp - 2, s.sp - 2 + 1] else []
  | .callA16 _ => [s.sp - 2, s.sp - 2 + 1]
  | .rst08 => [s.sp - 2, s.sp - 2 + 1]
  | .callNcA16 _ => if s.cond .nc then [s.sp - 2, s.sp - 2 + 1] else []
  | .pushDe => [s.sp - 2, s.sp - 2 + 1]
  | .rst10 => [s.sp - 2, s.sp - 2 + 1]
  | .callCA16 _ => if s.cond .c then [s.sp - 2, s.sp - 2 + 1] else []
  | .rst18 => [s.sp - 2, s.sp - 2 + 1]
  | .ldhAtA8A a8 => [highPage a8]
  | .ldAtCA => [highPage s.c]
  | .pushHl => [s.sp - 2, s.sp - 2 + 1]
  | .rst20 => [s.sp - 2, s.sp - 2 + 1]
  | .ldAtA16A a16 => [a16]
  | .rst28 => [s.sp - 2, s.sp - 2 + 1]
  | .pushAf => [s.sp - 2, s.sp - 2 + 1]
  | .rst30 => [s.sp - 2, s.sp - 2 + 1]
  | .rst38 => [s.sp - 2, s.sp - 2 + 1]
  | i => prefixedStores i s

/-- The state that has pushed `v` (R220): SP falls by 2, the low byte is stored at it, then the high byte one above. -/
def State.pushed (s : State) (v : Word) : State :=
  ({ s with sp := s.sp - 2 }.write8 (s.sp - 2) (loByte v)).write8 (s.sp - 1) (hiByte v)

/-- What an addition does (R151): `i`, of `len` bytes, adds `v` and the carry `cin` to A. -/
def AddsToA (i : Instr) (s : State) (len : Nat) (v : Byte) (cin : Bool) : Prop :=
  ∃ res f : Byte, exec i s = .next { s.past i len with a := res, f := f } ∧
    res.toNat = (s.a.toNat + v.toNat + cin.toNat) % 256 ∧
    FlagsAre f (decide (res = 0)) false (decide ((s.a &&& 0x0F).toNat + (v &&& 0x0F).toNat + cin.toNat > 0xF))
      (decide (s.a.toNat + v.toNat + cin.toNat > 0xFF))

/-- The flags of a subtraction (R152) of `v` and the borrow `cin` from A, whose result is `res`. -/
def SubtractionFlags (f : Byte) (s : State) (v : Byte) (cin : Bool) (res : Byte) : Prop :=
  (res.toNat : Int) = ((s.a.toNat : Int) - v.toNat - cin.toNat) % 256 ∧
    FlagsAre f (decide (res = 0)) true (decide ((s.a &&& 0x0F).toNat < (v &&& 0x0F).toNat + cin.toNat)) (decide (s.a.toNat < v.toNat + cin.toNat))

/-- What a subtraction does: `i`, of `len` bytes, subtracts `v` and the borrow `cin` from A. -/
def SubtractsFromA (i : Instr) (s : State) (len : Nat) (v : Byte) (cin : Bool) : Prop :=
  ∃ res f : Byte, exec i s = .next { s.past i len with a := res, f := f } ∧ SubtractionFlags f s v cin res

/-- What a comparison does: the flags of the subtraction, A unchanged. -/
def ComparesWithA (i : Instr) (s : State) (len : Nat) (v : Byte) : Prop :=
  ∃ res f : Byte, exec i s = .next { s.past i len with f := f } ∧ SubtractionFlags f s v false res

/-- What a logical operation does: A becomes `res`, Z by it, N and C cleared, H as given. -/
def PutsLogicalResult (i : Instr) (s : State) (len : Nat) (res : Byte) (h : Bool) : Prop :=
  ∃ f : Byte, exec i s = .next { s.past i len with a := res, f := f } ∧ FlagsAre f (decide (res = 0)) false h false

end Sys2Proof.Machine
end

