-- ==== Sys2Proof/Certificates/Slice0/Obligations.lean ====
section
/-! DEFINITION. The statements for the provers, formed from the numbered rules of spec/. -/

open Sys2Proof Sys2Proof.Machine

/-! ## Encoding and decoding -/

/-- Decoding the bytes of a well-formed instruction gives it back, with every operand at every value, and the bytes after it (R120, R121, R127 to R130). Marked by the spec as its own: R120 (general knowledge), R121 (derived), R127 (decision D12), R128 (general knowledge, decision D12), R130 (general knowledge, decision D31). -/
def Obligations.DecodeInvertsEncode : Prop :=
  ∀ (i : Instr) (rest : List Byte), i.wf = true → decode (encode i ++ rest) = .ok (i, rest)

/-- Any three bytes decode to a well-formed instruction whose own bytes are the first of them, as many as the first byte tells (R121). Marked by the spec as its own: R120 (general knowledge), R121 (derived), R135 (general knowledge). -/
def Obligations.EncodeInvertsDecode : Prop :=
  ∀ b0 b1 b2 : Byte, (decodeBytes b0 b1 b2).wf = true ∧ encode (decodeBytes b0 b1 b2) = [b0, b1, b2].take (instrLength b0)

/-- Words written out from the opcode map of 30_encoding.md section 6 decode to their instructions, one for each family. Marked by the spec as its own: R122 (general knowledge), R123 (general knowledge), R124 (general knowledge), R125 (general knowledge), R126 (general knowledge), R128 (general knowledge, decision D12). -/
def Obligations.SampleWordsDecode : Prop :=
  decodeBytes 0x78 0 0 = .ldAB ∧ decodeBytes 0x01 0x34 0x12 = .ldBcN16 0x1234 ∧ decodeBytes 0x08 0x00 0xC1 = .ldAtA16Sp 0xC100 ∧
  decodeBytes 0xE0 0x46 0 = .ldhAtA8A 0x46 ∧ decodeBytes 0x9C 0 0 = .sbcAH ∧ decodeBytes 0xFE 0x3C 0 = .cpAN8 0x3C ∧
  decodeBytes 0x19 0 0 = .addHlDe ∧ decodeBytes 0xE8 0x80 0 = .addSpE8 0x80 ∧ decodeBytes 0xD4 0x00 0x03 = .callNcA16 0x0300 ∧
  decodeBytes 0x20 0xFB 0 = .jrNzE8 0xFB ∧ decodeBytes 0xDF 0 0 = .rst18 ∧ decodeBytes 0xF5 0 0 = .pushAf ∧
  decodeBytes 0x10 0xCB 0 = .stop 0xCB ∧ decodeBytes 0x76 0 0 = .halt ∧ decodeBytes 0x1F 0 0 = .rra ∧
  decodeBytes 0xCB 0x2D 0 = .sraL ∧ decodeBytes 0xCB 0x7C 0 = .bit7H ∧ decodeBytes 0xCB 0xFE 0 = .set7AtHl ∧ decodeBytes 0xDD 0 0 = .illegal 0xDD

/-- Every second byte of the prefixed space has a descriptor, that of its own row (R135). Marked by the spec as its own: R135 (general knowledge). -/
def Obligations.PrefixedSpaceIsComplete : Prop :=
  ∀ op2 : Byte, ∃ d, lookup op2 true = some d ∧ d.prefixed = true ∧ d.opcode = op2 ∧ d.length = 2

/-! ## The step, faults and the host -/

/-- A step of a ready state is `exec` of the instruction that the bytes at PC decode to; the step adds nothing around it (R137). Marked by the spec as its own: R137 (decision D5). -/
def Obligations.StepRunsTheDecodedInstruction : Prop :=
  ∀ (s : State) (i : Instr) (rest : List Byte), s.ready →
    decode [s.read8 s.pc, s.read8 (s.pc + 1), s.read8 (s.pc + 2)] = .ok (i, rest) → i.wf = true → step s = exec i s

/-- A recorded fault is returned for ever (R305), a stopped or halted core makes no progress (R314), and an unloaded core has no move (R315). That the answers read as a fault, an unchanged next state and a refusal is the model's choice (log entry 2). Marked by the spec as its own: R305 (decision D6), R314 (derived, decision D25, D29), R315 (decision D28, D40). -/
def Obligations.StepWithoutExecution : Prop :=
  (∀ s : State, s.cart = .absent → step s = .refused .noCartridge) ∧
  (∀ (s : State) (f : Fault), s.cart ≠ .absent → s.fault = some f → step s = .fault f) ∧
  (∀ s : State, s.cart ≠ .absent → s.fault = none → s.run ≠ .running → step s = .next s)

/-- The host has no move exactly on an unloaded core; else the answer is an error exactly where the state left records that fault, no progress exactly where an unfaulted core does not run, and the state left is the step's (R304 to R306, R315). Marked by the spec as its own: R304 (decision D5), R305 (decision D6), R306 (derived, decision D18), R314 (derived, decision D25, D29), R315 (decision D28, D40). -/
def Obligations.HostStepAnswers : Prop :=
  ∀ s : State, (s.hostStep = none ↔ s.cart = .absent) ∧
    ∀ r t, s.hostStep = some (r, t) →
      (∀ f, r = .error f ↔ t.fault = some f) ∧ (r = .noProgress ↔ s.fault = none ∧ s.run ≠ .running) ∧
      (s.fault = none → step s = .next t) ∧ (s.fault ≠ none → t = s)

/-- `exec` answers a next state for every instruction in every state, since no access faults (R60). Where an opcode raises a fault (R301, R302), that the answer is a next state with the fault recorded, and no fault outcome, is the model's choice (log entry 2). Marked by the spec as its own: R301 (decision D4), R302 (decision D2), R304 (decision D5). -/
def Obligations.ExecAlwaysAnswersANextState : Prop :=
  ∀ (i : Instr) (s : State), ∃ t, exec i s = .next t

/-- An illegal opcode raises IllegalOpcode with its own byte at its own address and writes nothing else, in both profiles; a ready state with such a byte at PC does so (R267, R301, R304). Marked by the spec as its own: R267 (general knowledge, decision D4, D5), R301 (decision D4), R304 (decision D5). -/
def Obligations.IllegalOpcodeFaultEntry : Prop :=
  (∀ (op : Byte) (s : State), op ∈ [0xD3, 0xDB, 0xDD, 0xE3, 0xE4, 0xEB, 0xEC, 0xED, 0xF4, 0xFC, 0xFD] →
    encode (.illegal op) = [op] ∧ exec (.illegal op) s = .next { s with fault := some (.illegalOpcode ⟨s.pc, [op], false⟩) }) ∧
  ∀ s : State, s.ready → s.read8 s.pc ∈ [0xD3, 0xDB, 0xDD, 0xE3, 0xE4, 0xEB, 0xEC, 0xED, 0xF4, 0xFC, 0xFD] →
    step s = .next { s with fault := some (.illegalOpcode ⟨s.pc, [s.read8 s.pc], false⟩) }

/-- A ready state with any other opcode at PC never records IllegalOpcode, and an opcode has no descriptor exactly when it is one of the eleven (R134). Marked by the spec as its own: R134 (general knowledge, decision D4), R135 (general knowledge). -/
def Obligations.OnlyElevenOpcodesAreIllegal : Prop :=
  (∀ op : Byte, lookup op false = none ↔ op ∈ [0xD3, 0xDB, 0xDD, 0xE3, 0xE4, 0xEB, 0xEC, 0xED, 0xF4, 0xFC, 0xFD]) ∧
  ∀ s t : State, s.ready → s.read8 s.pc ∉ [0xD3, 0xDB, 0xDD, 0xE3, 0xE4, 0xEB, 0xEC, 0xED, 0xF4, 0xFC, 0xFD] → step s = .next t →
    ∀ info, t.fault ≠ some (.illegalOpcode info)

/-- In CORE the opcodes that R302 lists record UnsupportedOpcode, a prefixed one with both its bytes, and change nothing else, and a ready state with any other opcode at PC never records it; in FULL no ready state ever does. Marked by the spec as its own: R302 (decision D2), R304 (decision D5). -/
def Obligations.UnsupportedOpcodeFaultEntry : Prop :=
  (∀ s : State, s.ready → s.cfg.profile = .core →
    s.read8 s.pc ∈ [0x07, 0x0F, 0x17, 0x1F, 0x27, 0x37, 0x76, 0x88, 0x89, 0x8A, 0x8B, 0x8C, 0x8D, 0x8E, 0x8F, 0xCE, 0xFB] →
    step s = .next (s.unsupported [s.read8 s.pc] false)) ∧
  (∀ s : State, s.ready → s.cfg.profile = .core → s.read8 s.pc = 0xCB →
    step s = .next (s.unsupported [0xCB, s.read8 (s.pc + 1)] true)) ∧
  (∀ s t : State, s.ready → s.cfg.profile = .core →
    s.read8 s.pc ∉ [0x07, 0x0F, 0x17, 0x1F, 0x27, 0x37, 0x76, 0x88, 0x89, 0x8A, 0x8B, 0x8C, 0x8D, 0x8E, 0x8F, 0xCB, 0xCE, 0xFB] →
    step s = .next t → ∀ info, t.fault ≠ some (.unsupportedOpcode info)) ∧
  (∀ s t : State, s.ready → s.cfg.profile = .full → step s = .next t → ∀ info, t.fault ≠ some (.unsupportedOpcode info))

/-- An instruction that the profile implements executes: it answers a next state with no new fault and its descriptor in `lastDecoded`; FULL implements every instruction but the illegal ones, CORE those whose first byte R136 does not list (R136). Marked by the spec as its own: R33 (decision D36), R136 (decision D2). -/
def Obligations.ImplementedInstructionsExecute : Prop :=
  (∀ (i : Instr) (s : State), i.wf = true → i.implemented s.cfg.profile = true →
    ∃ t, exec i s = .next t ∧ t.fault = s.fault ∧ t.lastDecoded = i.descriptor) ∧
  (∀ i : Instr, i.wf = true → (i.implemented .full = true ↔ ∀ op, i ≠ .illegal op)) ∧
  ∀ i : Instr, i.wf = true → (i.implemented .core = true ↔ (∀ op, i ≠ .illegal op) ∧
    (encode i).head? ∉ [some (0x07 : Byte), some 0x0F, some 0x17, some 0x1F, some 0x27, some 0x37, some 0x76, some 0x88, some 0x89, some 0x8A,
      some 0x8B, some 0x8C, some 0x8D, some 0x8E, some 0x8F, some 0xCE, some 0xFB, some 0xCB])

/-- Where an instruction raises a fault, the fault is the only thing it writes, and it names the PC of the instruction (R304, R307). Marked by the spec as its own: R304 (decision D5), R307 (derived). -/
def Obligations.FaultsWriteNothingElse : Prop :=
  ∀ (i : Instr) (s t : State), exec i s = .next t → t.fault ≠ s.fault → ∃ f, f.pc = s.pc ∧ t = { s with fault := some f }

/-- The row PREFIX CB with its second byte is the prefixed instruction, in both profiles (R266). Marked by the spec as its own: R126 (general knowledge), R266 (decision D2), R302 (decision D2). -/
def Obligations.PrefixCbPerformsThePrefixedInstruction : Prop :=
  ∀ (op2 : Byte) (s : State), exec (.prefixCb op2) s = exec (decodePrefixed op2) s ∧
    (s.cfg.profile = .core → exec (.prefixCb op2) s = .next (s.unsupported [0xCB, op2] true)) ∧
    (s.cfg.profile = .full → ∃ t, exec (.prefixCb op2) s = .next t ∧ t.pc = s.pc + 2 ∧ t.fault = s.fault)

/-! ## Reset, loading, invariants -/

/-- The state after `construct()` with any parameters: the register values of R40, every byte of every memory array MEM_INIT (R41), the fault, run and diagnostic fields of R43, no cartridge (R340); the reset state is that of the parameters' defaults, whose MEM_INIT is 0x00 (R5). Marked by the spec as its own: R40 (decision D22, D24), R41 (decision D23), R43 (decision D6), R340 (general knowledge, decision D22, D23, D24). -/
def Obligations.ResetState : Prop :=
  (∀ cfg : Config, let s := State.construct cfg
    s.a = 0x01 ∧ s.f = 0xB0 ∧ s.b = 0x00 ∧ s.c = 0x13 ∧ s.d = 0x00 ∧ s.e = 0xD8 ∧ s.h = 0x01 ∧ s.l = 0x4D ∧ s.sp = 0xFFFE ∧ s.pc = 0x0100 ∧
    s.ime = false ∧ s.fault = none ∧ s.run = .running ∧ s.lastDecoded = none ∧ s.cart = .absent ∧ s.cfg = cfg ∧
    ∀ (st : Store) (i : Nat), i < st.size → (s.array st).read i = cfg.memInit) ∧
  State.reset = State.construct ⟨.core, 0xFF, 0xFF, 0xFF, 32768, 0x00⟩

/-- The reset state meets every invariant stated below, and so does the state after `construct()` with any parameters whose external RAM has a byte (log entry 8). Marked by the spec as its own: R33 (decision D36). -/
def Obligations.ResetMeetsTheInvariants : Prop :=
  (State.reset.memoryWf ∧ State.reset.flagsClean ∧ State.reset.faultAtPc ∧ State.reset.decodedKnown) ∧
  ∀ cfg : Config, 0 < cfg.extRamSize → (State.construct cfg).memoryWf ∧ (State.construct cfg).flagsClean ∧
    (State.construct cfg).faultAtPc ∧ (State.construct cfg).decodedKnown

/-- Every step keeps every memory in canonical form and within its size (R34, R35: arrays never resized). The canonical form is the model's own (log entry 3). Marked by the spec as its own: R35 (decision D15). -/
def Obligations.StepKeepsMemoryInForm : Prop :=
  ∀ s t : State, s.memoryWf → step s = .next t → t.memoryWf

/-- Every step keeps the low nibble of F zero (R22). -/
def Obligations.StepKeepsFlagNibbleZero : Prop :=
  ∀ s t : State, s.flagsClean → step s = .next t → t.flagsClean

/-- Every step keeps PC at the address a recorded fault names, and `lastDecoded` the descriptor of an instruction (R33, R304). Marked by the spec as its own: R29 (decision D12), R31 (decision D6, D39), R33 (decision D36), R304 (decision D5). -/
def Obligations.StepKeepsFaultAddressAndDescriptor : Prop :=
  ∀ s t : State, s.faultAtPc → s.decodedKnown → step s = .next t → t.faultAtPc ∧ t.decodedKnown

/-- No step changes the session's parameters, the image bytes or the kind of the controller (R35, R38). Marked by the spec as its own: R35 (decision D15), R93 (derived, decision D30). -/
def Obligations.StepKeepsConfigurationAndImage : Prop :=
  ∀ s t : State, step s = .next t → t.cfg = s.cfg ∧ t.cart.image = s.cart.image ∧ t.cart.banked = s.cart.banked

/-- `run` leaves `running` by STOP or HALT only, and no step returns it to `running` (R32, R264). Marked by the spec as its own: R32 (decision D25), R264 (general knowledge, decision D25, D26). -/
def Obligations.RunChangesOnlyByStopAndHalt : Prop :=
  (∀ (i : Instr) (s t : State), exec i s = .next t → t.run ≠ s.run → (∃ b, i = .stop b ∧ t.run = .stopped) ∨ (i = .halt ∧ t.run = .halted)) ∧
  ∀ s t : State, s.run ≠ .running → step s = .next t → t = s

/-- IME is written by DI, EI and RETI only (R30, R36). Marked by the spec as its own: R30 (decision D29). -/
def Obligations.ImeChangesOnlyByDiEiReti : Prop :=
  ∀ (i : Instr) (s t : State), exec i s = .next t → t.ime ≠ s.ime → (i = .di ∧ t.ime = false) ∨ (i = .ei ∧ t.ime = true) ∨ (i = .reti ∧ t.ime = true)

/-- SP is written only by the instructions that R28 lists. -/
def Obligations.SpChangesOnlyByStackInstructions : Prop :=
  ∀ (i : Instr) (s t : State), exec i s = .next t → t.sp ≠ s.sp →
    (∃ n, i = .ldSpN16 n) ∨ i = .ldSpHl ∨ i = .incSp ∨ i = .decSp ∨ (∃ e, i = .addSpE8 e) ∨
      ∃ d, i.descriptor = some d ∧ d.mnemonic ∈ [Mnemonic.push, .pop, .call, .ret, .reti, .rst]

/-- Every executed instruction treats each flag as its descriptor's policy says (R132). -/
def Obligations.FlagsFollowTheDescriptor : Prop :=
  ∀ (i : Instr) (d : Descriptor) (s t : State), i.wf = true → i.descriptor = some d → d.implemented s.cfg.profile = true → exec i s = .next t →
    d.flags.z.holds (s.f.getLsbD 7) (t.f.getLsbD 7) ∧ d.flags.n.holds (s.f.getLsbD 6) (t.f.getLsbD 6) ∧
    d.flags.h.holds (s.f.getLsbD 5) (t.f.getLsbD 5) ∧ d.flags.c.holds (s.f.getLsbD 4) (t.f.getLsbD 4)

/-- Every executed instruction that is no control transfer moves PC by its length, with wrap (R138). Marked by the spec as its own: R29 (decision D12), R138 (derived, decision D13). -/
def Obligations.PcAdvancesByTheLength : Prop :=
  ∀ (i : Instr) (d : Descriptor) (s t : State), i.wf = true → i.descriptor = some d → d.implemented s.cfg.profile = true →
    d.mnemonic ∉ [Mnemonic.jp, .jr, .call, .ret, .reti, .rst] → exec i s = .next t → t.pc = s.pc + BitVec.ofNat 16 (encode i).length

/-- The frame of memory, for every instruction: every byte that no store of the instruction can reach (`mayChange`) reads as before; an instruction that stores nothing changes no byte and nothing of the cartridge (R62, R89). Marked by the spec as its own: R65 (derived), R67 (decision D8), R75 (decision D21), R86 (decision D9, D19), R89 (derived). -/
def Obligations.StoresFrameMemory : Prop :=
  (∀ (i : Instr) (s t : State), s.memoryWf → exec i s = .next t →
    ∀ q, (∀ p ∈ storeAddresses i s, ¬ s.mayChange p q) → t.read8 q = s.read8 q) ∧
  ∀ (i : Instr) (s t : State), exec i s = .next t → storeAddresses i s = [] → t.cart = s.cart ∧ ∀ st, t.array st = s.array st

/-- `loadCartridge` (R303, R341): the errors in the order of R306, and the two controllers with their reset registers (R42); only the cartridge changes; a load where a cartridge stands has no move. That a load after a failed one answers as a first one does is the model's choice (log entry 13). Marked by the spec as its own: R42 (decision D16), R303 (decision D17, D18, D28), R306 (derived, decision D18), R315 (decision D28, D40), R341 (decision D16, D17, D18, D19, D28). -/
def Obligations.LoadCartridge : Prop :=
  ∀ (s : State) (bytes : List Byte), (s.cart ≠ .absent → loadCartridge bytes s = .noMove) ∧
    (s.cart = .absent →
      (bytes.length ≤ 0x147 → loadCartridge bytes s = .failed (.truncated bytes.length)) ∧
      ∀ kind, bytes[0x147]? = some kind →
        (kind ∉ [0x00, 0x01, 0x02, 0x03] → loadCartridge bytes s = .failed (.unknownController kind)) ∧
        (kind ∈ [0x00, 0x01, 0x02, 0x03] → bytes.length < 0x8000 → loadCartridge bytes s = .failed (.truncated bytes.length)) ∧
        (kind ∈ [0x00, 0x01, 0x02, 0x03] → 0x8000 ≤ bytes.length →
          ∃ rom : Rom, rom.len = bytes.length ∧ (∀ (cfg : Config) (o : Nat), rom.byte cfg o = bytes.getD o cfg.romOobRead) ∧
            (kind = 0x00 → loadCartridge bytes s = .loaded { s with cart := .noBanking rom }) ∧
            (kind ≠ 0x00 → loadCartridge bytes s = .loaded { s with cart := .bankSwitching rom ⟨[], false, 0, 0, .romBanking⟩ })))

/-! ## The bus and the cartridge -/

/-- An access in 0xE000 to 0xFDFF acts as the access 0x2000 below it (R65); a read of 0xFEA0 to 0xFEFF gives UNUSABLE_READ and a write there does nothing (R67). Marked by the spec as its own: R65 (derived), R67 (decision D8). -/
def Obligations.EchoAndUnusableRegion : Prop :=
  (∀ (s : State) (p : Word) (v : Byte), 0xE000 ≤ p.toNat → p.toNat ≤ 0xFDFF →
    s.read8 p = s.read8 (p - 0x2000) ∧ s.write8 p v = s.write8 (p - 0x2000) v) ∧
  ∀ (s : State) (p : Word) (v : Byte), 0xFEA0 ≤ p.toNat → p.toNat ≤ 0xFEFF → s.read8 p = s.cfg.unusableRead ∧ s.write8 p v = s

/-- A write to video RAM, work RAM, the sprite table or high RAM stores the byte; no other byte outside the echo, and nothing of the cartridge, changes (R62, R65, R89). Marked by the spec as its own: R63 (decision D35), R66 (decision D35), R76 (general knowledge, derived, decision D34), R89 (derived). -/
def Obligations.StorageReadsBack : Prop :=
  ∀ (s : State) (p : Word) (v : Byte), s.memoryWf →
    (0x8000 ≤ p.toNat ∧ p.toNat ≤ 0x9FFF ∨ 0xC000 ≤ p.toNat ∧ p.toNat ≤ 0xDFFF ∨ 0xFE00 ≤ p.toNat ∧ p.toNat ≤ 0xFE9F ∨ 0xFF80 ≤ p.toNat) →
    (s.write8 p v).read8 p = v ∧ (∀ q : Word, (q.toNat < 0xE000 ∨ 0xFDFF < q.toNat) → q ≠ p → (s.write8 p v).read8 q = s.read8 q) ∧
    (s.write8 p v).cart = s.cart

/-- A write to IF stores the value with bits 7 to 5 set, a write to DIV or LY stores 0, a write to any other I/O byte but DMA stores the value; no other byte and nothing but the I/O block changes (R70 to R73). Marked by the spec as its own: R68 (derived), R70 (derived), R72 (decision D27), R73 (decision D27). -/
def Obligations.IoWriteSideEffects : Prop :=
  ∀ (s : State) (p : Word) (v : Byte), s.memoryWf → 0xFF00 ≤ p.toNat → p.toNat ≤ 0xFF7F → p ≠ 0xFF46 →
    (s.write8 p v).read8 p = (if p = 0xFF0F then v ||| 0xE0 else if p = 0xFF04 ∨ p = 0xFF44 then 0x00 else v) ∧
    (∀ q, q ≠ p → (s.write8 p v).read8 q = s.read8 q) ∧ s.write8 p v = { s with io := (s.write8 p v).io }

/-- A write of `v` to 0xFF46 stores `v` there and copies the 160 bytes from `v * 256` on, read through the bus, into the sprite table; nothing else changes (R75). Marked by the spec as its own: R75 (decision D21), R346 (general knowledge, decision D21). -/
def Obligations.DmaCopiesThePage : Prop :=
  ∀ (s : State) (v : Byte), s.memoryWf →
    (s.write8 0xFF46 v).read8 0xFF46 = v ∧
    (∀ k, k < 160 → (s.write8 0xFF46 v).read8 (BitVec.ofNat 16 (0xFE00 + k)) =
      (if v.toNat * 256 + k = 0xFF46 then v else s.read8 (BitVec.ofNat 16 (v.toNat * 256 + k)))) ∧
    (∀ q : Word, q ≠ 0xFF46 → (q.toNat < 0xFE00 ∨ 0xFE9F < q.toNat) → (s.write8 0xFF46 v).read8 q = s.read8 q) ∧
    s.write8 0xFF46 v = { s with io := (s.write8 0xFF46 v).io, oam := (s.write8 0xFF46 v).oam }

/-- A store to the ROM range of a bank-switching cartridge writes the register its address picks and nothing else (R80 to R83). Marked by the spec as its own: R81 (decision D15), R82 (decision D15). -/
def Obligations.ControllerRegisterWrites : Prop :=
  ∀ (s : State) (rom : Rom) (m : Mbc) (p : Word) (v : Byte), s.cart = .bankSwitching rom m →
    (p.toNat ≤ 0x1FFF → s.write8 p v = { s with cart := .bankSwitching rom { m with ramEnabled := decide (v &&& 0x0F = 0x0A) } }) ∧
    (0x2000 ≤ p.toNat → p.toNat ≤ 0x3FFF → s.write8 p v = { s with cart := .bankSwitching rom { m with romBankLow := BitVec.ofNat 5 v.toNat } }) ∧
    (0x4000 ≤ p.toNat → p.toNat ≤ 0x5FFF → s.write8 p v = { s with cart := .bankSwitching rom { m with bank2 := BitVec.ofNat 2 v.toNat } }) ∧
    (0x6000 ≤ p.toNat → p.toNat ≤ 0x7FFF →
      s.write8 p v = { s with cart := .bankSwitching rom { m with bankingMode := if v.toNat % 2 = 1 then .ramBanking else .romBanking } })

/-- The ROM windows of a bank-switching cartridge: bank 0 below 0x4000, above it the active bank with the zero guard on the combined value; past the image ROM_OOB_READ (R84, R85, R87). Marked by the spec as its own: R84 (general knowledge, decision D15, D33), R85 (decision D32), R87 (decision D10). -/
def Obligations.RomWindows : Prop :=
  ∀ (s : State) (rom : Rom) (m : Mbc) (p : Word), s.cart = .bankSwitching rom m →
    (p.toNat ≤ 0x3FFF → s.read8 p = if p.toNat < rom.len then rom.cells.read p.toNat else s.cfg.romOobRead) ∧
    (0x4000 ≤ p.toNat → p.toNat ≤ 0x7FFF → ∀ b : Nat,
      b = (match m.bankingMode with | .romBanking => m.romBankLow.toNat + 32 * m.bank2.toNat | .ramBanking => m.romBankLow.toNat) →
      s.read8 p = (if max b 1 * 0x4000 + (p.toNat - 0x4000) < rom.len then rom.cells.read (max b 1 * 0x4000 + (p.toNat - 0x4000)) else s.cfg.romOobRead))

/-- External RAM of a bank-switching cartridge: while enabled, the byte of the active bank, stored and read back with no other byte of it changed; while disabled, the sentinel, and writes do nothing (R84, R86). Marked by the spec as its own: R84 (general knowledge, decision D15, D33), R86 (decision D9, D19). -/
def Obligations.ExternalRam : Prop :=
  ∀ (s : State) (rom : Rom) (m : Mbc) (p : Word) (v : Byte), s.cart = .bankSwitching rom m → 0xA000 ≤ p.toNat → p.toNat ≤ 0xBFFF →
    (m.ramEnabled = false → s.read8 p = s.cfg.cartRamDisabledRead ∧ s.write8 p v = s) ∧
    (m.ramEnabled = true → ∀ o : Nat,
      o = ((match m.bankingMode with | .romBanking => 0 | .ramBanking => m.bank2.toNat) * 0x2000 + (p.toNat - 0xA000)) % s.cfg.extRamSize →
      s.read8 p = m.eram.read o ∧
      (m.eram.wf = true → ∃ eram : Memory, s.write8 p v = { s with cart := .bankSwitching rom { m with eram := eram } } ∧
        eram.read o = v ∧ ∀ j, j ≠ o → eram.read j = m.eram.read j))

/-- A cartridge without banking: its ROM window is the image, a store there does nothing, and it has no RAM (R79, R87). Marked by the spec as its own: R79 (decision D9, D19), R87 (decision D10). -/
def Obligations.NoBankingController : Prop :=
  ∀ (s : State) (rom : Rom) (p : Word) (v : Byte), s.cart = .noBanking rom →
    (p.toNat ≤ 0x7FFF → s.read8 p = (if p.toNat < rom.len then rom.cells.read p.toNat else s.cfg.romOobRead) ∧ s.write8 p v = s) ∧
    (0xA000 ≤ p.toNat → p.toNat ≤ 0xBFFF → s.read8 p = s.cfg.cartRamDisabledRead ∧ s.write8 p v = s)

/-! ## 8-bit arithmetic and logic -/

/-- ADD A,r, ADD A,(HL), ADD A,n8: encoding, result, flags Z 0 H C, and nothing else changed (R155 to R157). -/
def Obligations.AddResult : Prop :=
  (∀ form ∈ Forms.addR, ∀ s : State, encode form.2.1 = [form.1] ∧ AddsToA form.2.1 s 1 (s.get8 form.2.2) false) ∧
  ∀ (n8 : Byte) (s : State), encode (.addAN8 n8) = [0xC6, n8] ∧ AddsToA (.addAN8 n8) s 2 n8 false

/-- ADC A,r, ADC A,(HL), ADC A,n8 in FULL: encoding, result with the carry flag added, flags Z 0 H C; in CORE UnsupportedOpcode with no effect (R158 to R160). Marked by the spec as its own: R158 (general knowledge), R159 (general knowledge), R160 (general knowledge), R302 (decision D2). -/
def Obligations.AdcResult : Prop :=
  (∀ form ∈ Forms.adcR, ∀ s : State, encode form.2.1 = [form.1] ∧
    (s.cfg.profile = .full → AddsToA form.2.1 s 1 (s.get8 form.2.2) (s.f.getLsbD 4)) ∧
    (s.cfg.profile = .core → exec form.2.1 s = .next (s.unsupported [form.1] false))) ∧
  ∀ (n8 : Byte) (s : State), encode (.adcAN8 n8) = [0xCE, n8] ∧
    (s.cfg.profile = .full → AddsToA (.adcAN8 n8) s 2 n8 (s.f.getLsbD 4)) ∧
    (s.cfg.profile = .core → exec (.adcAN8 n8) s = .next (s.unsupported [0xCE] false))

/-- SUB A,r, SUB A,(HL), SUB A,n8: encoding, result, flags Z 1 H C, and nothing else changed (R161 to R163). -/
def Obligations.SubResult : Prop :=
  (∀ form ∈ Forms.subR, ∀ s : State, encode form.2.1 = [form.1] ∧ SubtractsFromA form.2.1 s 1 (s.get8 form.2.2) false) ∧
  ∀ (n8 : Byte) (s : State), encode (.subAN8 n8) = [0xD6, n8] ∧ SubtractsFromA (.subAN8 n8) s 2 n8 false

/-- SBC A,r, SBC A,(HL), SBC A,n8: encoding, result with the carry flag subtracted, flags Z 1 H C (R164 to R166). -/
def Obligations.SbcResult : Prop :=
  (∀ form ∈ Forms.sbcR, ∀ s : State, encode form.2.1 = [form.1] ∧ SubtractsFromA form.2.1 s 1 (s.get8 form.2.2) (s.f.getLsbD 4)) ∧
  ∀ (n8 : Byte) (s : State), encode (.sbcAN8 n8) = [0xDE, n8] ∧ SubtractsFromA (.sbcAN8 n8) s 2 n8 (s.f.getLsbD 4)

/-- CP A,r, CP A,(HL), CP A,n8: encoding, the flags of the subtraction, A and everything else unchanged (R176 to R178). -/
def Obligations.CpResult : Prop :=
  (∀ form ∈ Forms.cpR, ∀ s : State, encode form.2.1 = [form.1] ∧ ComparesWithA form.2.1 s 1 (s.get8 form.2.2)) ∧
  ∀ (n8 : Byte) (s : State), encode (.cpAN8 n8) = [0xFE, n8] ∧ ComparesWithA (.cpAN8 n8) s 2 n8

/-- AND, XOR, OR with r, (HL), n8: encoding, result, flags Z 0 1 0 for AND and Z 0 0 0 for XOR and OR (R153, R167 to R175). Marked by the spec as its own: R153 (general knowledge), R167 (general knowledge), R168 (general knowledge), R169 (general knowledge), R170 (general knowledge), R171 (general knowledge), R172 (general knowledge), R173 (general knowledge), R174 (general knowledge), R175 (general knowledge). -/
def Obligations.LogicResult : Prop :=
  (∀ form ∈ Forms.andR, ∀ s : State, encode form.2.1 = [form.1] ∧ PutsLogicalResult form.2.1 s 1 (s.a &&& s.get8 form.2.2) true) ∧
  (∀ form ∈ Forms.xorR, ∀ s : State, encode form.2.1 = [form.1] ∧ PutsLogicalResult form.2.1 s 1 (s.a ^^^ s.get8 form.2.2) false) ∧
  (∀ form ∈ Forms.orR, ∀ s : State, encode form.2.1 = [form.1] ∧ PutsLogicalResult form.2.1 s 1 (s.a ||| s.get8 form.2.2) false) ∧
  ∀ (n8 : Byte) (s : State),
    (encode (.andAN8 n8) = [0xE6, n8] ∧ PutsLogicalResult (.andAN8 n8) s 2 (s.a &&& n8) true) ∧
    (encode (.xorAN8 n8) = [0xEE, n8] ∧ PutsLogicalResult (.xorAN8 n8) s 2 (s.a ^^^ n8) false) ∧
    (encode (.orAN8 n8) = [0xF6, n8] ∧ PutsLogicalResult (.orAN8 n8) s 2 (s.a ||| n8) false)

/-- INC and DEC of a register or (HL): encoding, the operand plus or minus 1 with wrap, flags Z 0 H - and Z 1 H -, computed from the value and the result and not from what the store leaves (R179 to R182). Marked by the spec as its own: R179 (general knowledge), R180 (general knowledge), R181 (general knowledge), R182 (general knowledge). -/
def Obligations.IncDec8Result : Prop :=
  (∀ form ∈ Forms.inc8, ∀ s : State, encode form.2.1 = [form.1] ∧ ∃ res f : Byte,
    exec form.2.1 s = .next { s.put8 form.2.2 res with f := f, pc := s.pc + 1, lastDecoded := form.2.1.descriptor } ∧
    res.toNat = ((s.get8 form.2.2).toNat + 1) % 256 ∧
    FlagsAre f (decide (res = 0)) false (decide ((s.get8 form.2.2 &&& 0x0F) = 0x0F)) (s.f.getLsbD 4)) ∧
  ∀ form ∈ Forms.dec8, ∀ s : State, encode form.2.1 = [form.1] ∧ ∃ res f : Byte,
    exec form.2.1 s = .next { s.put8 form.2.2 res with f := f, pc := s.pc + 1, lastDecoded := form.2.1.descriptor } ∧
    res.toNat = ((s.get8 form.2.2).toNat + 255) % 256 ∧
    FlagsAre f (decide (res = 0)) true (decide ((s.get8 form.2.2 &&& 0x0F) = 0x00)) (s.f.getLsbD 4)

/-- CPL, CCF and, in FULL, SCF: encoding, result and flags; in CORE SCF raises UnsupportedOpcode (R183 to R185). Marked by the spec as its own: R183 (general knowledge), R184 (general knowledge), R185 (general knowledge), R302 (decision D2). -/
def Obligations.ComplementAndCarryFlags : Prop :=
  ∀ s : State,
    (encode .cpl = [0x2F] ∧ ∃ res f : Byte, exec .cpl s = .next { s.past .cpl 1 with a := res, f := f } ∧ res = ~~~ s.a ∧
      FlagsAre f (s.f.getLsbD 7) true true (s.f.getLsbD 4)) ∧
    (encode .ccf = [0x3F] ∧ ∃ f : Byte, exec .ccf s = .next { s.past .ccf 1 with f := f } ∧ FlagsAre f (s.f.getLsbD 7) false false (!s.f.getLsbD 4)) ∧
    (encode .scf = [0x37] ∧
      (s.cfg.profile = .full → ∃ f : Byte, exec .scf s = .next { s.past .scf 1 with f := f } ∧ FlagsAre f (s.f.getLsbD 7) false false true) ∧
      (s.cfg.profile = .core → exec .scf s = .next (s.unsupported [0x37] false)))

/-- DAA in FULL: after an addition and after a subtraction, the adjusted A, flags Z - 0 C; in CORE UnsupportedOpcode (R186). Marked by the spec as its own: R186 (general knowledge), R302 (decision D2). -/
def Obligations.DecimalAdjustResult : Prop :=
  encode .daa = [0x27] ∧
  (∀ s : State, s.cfg.profile = .core → exec .daa s = .next (s.unsupported [0x27] false)) ∧
  ∀ s : State, s.cfg.profile = .full → ∃ res f : Byte, exec .daa s = .next { s.past .daa 1 with a := res, f := f } ∧
    (s.f.getLsbD 6 = false → ∃ c : Bool, c = (s.f.getLsbD 4 || decide (s.a.toNat > 0x99)) ∧
      res.toNat = (s.a.toNat + (if c then 0x60 else 0) + (if s.f.getLsbD 5 = true ∨ (s.a &&& 0x0F).toNat > 0x09 then 0x06 else 0)) % 256 ∧
      FlagsAre f (decide (res = 0)) false false c) ∧
    (s.f.getLsbD 6 = true →
      (res.toNat : Int) = ((s.a.toNat : Int) - (if s.f.getLsbD 4 then 0x60 else 0) - (if s.f.getLsbD 5 then 0x06 else 0)) % 256 ∧
      FlagsAre f (decide (res = 0)) true false (s.f.getLsbD 4))

/-! ## 16-bit arithmetic -/

/-- ADD HL,dd: encoding, the 16-bit sum, flags - 0 H C with the carries out of bit 11 and bit 15 (R190). Marked by the spec as its own: R190 (general knowledge). -/
def Obligations.AddHlResult : Prop :=
  ∀ form ∈ Forms.addHl, ∀ s : State, encode form.2.1 = [form.1] ∧ ∃ (res : Word) (f : Byte),
    exec form.2.1 s = .next { s.past form.2.1 1 with h := hiByte res, l := loByte res, f := f } ∧
    res.toNat = (s.hl.toNat + (s.get16 form.2.2).toNat) % 65536 ∧
    FlagsAre f (s.f.getLsbD 7) false (decide ((s.hl &&& 0x0FFF).toNat + (s.get16 form.2.2 &&& 0x0FFF).toNat > 0x0FFF))
      (decide (s.hl.toNat + (s.get16 form.2.2).toNat > 0xFFFF))

/-- ADD SP,e8 and LD HL,SP+e8: encoding, the signed sum with wrap, flags 0 0 H C from the unsigned low bytes (R191, R192, R252). Marked by the spec as its own: R191 (derived), R192 (general knowledge), R252 (general knowledge, derived). -/
def Obligations.SpPlusOffset : Prop :=
  ∀ (e8 : Byte) (s : State), ∃ (res : Word) (f : Byte),
    (res.toNat : Int) = ((s.sp.toNat : Int) + e8.toInt) % 65536 ∧
    FlagsAre f false false (decide ((s.sp &&& 0x000F).toNat + (e8 &&& 0x0F).toNat > 0x0F)) (decide ((s.sp &&& 0x00FF).toNat + e8.toNat > 0xFF)) ∧
    encode (.addSpE8 e8) = [0xE8, e8] ∧ exec (.addSpE8 e8) s = .next { s.past (.addSpE8 e8) 2 with sp := res, f := f } ∧
    encode (.ldHlSpE8 e8) = [0xF8, e8] ∧
    exec (.ldHlSpE8 e8) s = .next { s.past (.ldHlSpE8 e8) 2 with h := hiByte res, l := loByte res, f := f }

/-- INC dd and DEC dd: encoding, the register plus or minus 1 as one 16-bit value, no flag and nothing else changed (R26, R193, R194). -/
def Obligations.IncDec16Result : Prop :=
  (∀ form ∈ Forms.inc16, ∀ s : State, encode form.2.1 = [form.1] ∧ ∃ res : Word, res.toNat = ((s.get16 form.2.2).toNat + 1) % 65536 ∧
    exec form.2.1 s = .next ((s.past form.2.1 1).put16 form.2.2 res) ∧ ((s.past form.2.1 1).put16 form.2.2 res).get16 form.2.2 = res) ∧
  ∀ form ∈ Forms.dec16, ∀ s : State, encode form.2.1 = [form.1] ∧ ∃ res : Word, res.toNat = ((s.get16 form.2.2).toNat + 65535) % 65536 ∧
    exec form.2.1 s = .next ((s.past form.2.1 1).put16 form.2.2 res) ∧ ((s.past form.2.1 1).put16 form.2.2 res).get16 form.2.2 = res

/-! ## Control transfer and the stack -/

/-- JP a16, JP cc,a16, JP HL, JR e8, JR cc,e8: encoding, the target, or the address after the instruction where the condition fails; nothing else changed (R200 to R205). Marked by the spec as its own: R203 (general knowledge), R204 (general knowledge, decision D13), R205 (decision D13). -/
def Obligations.Jumps : Prop :=
  (∀ (a16 : Word) (s : State), encode (.jpA16 a16) = [0xC3, loByte a16, hiByte a16] ∧
    exec (.jpA16 a16) s = .next { s.past (.jpA16 a16) 3 with pc := a16 }) ∧
  (∀ a16, ∀ form ∈ Forms.jpCc a16, ∀ s : State, encode form.2.1 = [form.1, loByte a16, hiByte a16] ∧
    exec form.2.1 s = .next { s.past form.2.1 3 with pc := if form.2.2.holds s.f then a16 else s.pc + 3 }) ∧
  (∀ s : State, encode .jpHl = [0xE9] ∧ exec .jpHl s = .next { s.past .jpHl 1 with pc := wordOf s.l s.h }) ∧
  (∀ (e8 : Byte) (s : State), ∃ target : Word, (target.toNat : Int) = ((s.pc.toNat : Int) + 2 + e8.toInt) % 65536 ∧
    encode (.jrE8 e8) = [0x18, e8] ∧ exec (.jrE8 e8) s = .next { s.past (.jrE8 e8) 2 with pc := target } ∧
    ∀ form ∈ Forms.jrCc e8, encode form.2.1 = [form.1, e8] ∧
      exec form.2.1 s = .next { s.past form.2.1 2 with pc := if form.2.2.holds s.f then target else s.pc + 2 })

/-- CALL a16, CALL cc,a16, RST t: encoding, the address after the instruction pushed, then the target; a condition that fails changes nothing but PC (R206, R207, R211, R220). Marked by the spec as its own: R211 (general knowledge, decision D14), R220 (decision D11). -/
def Obligations.CallsAndRestarts : Prop :=
  (∀ (a16 : Word) (s : State), encode (.callA16 a16) = [0xCD, loByte a16, hiByte a16] ∧
    exec (.callA16 a16) s = .next { (s.past (.callA16 a16) 3).pushed (s.pc + 3) with pc := a16 }) ∧
  (∀ a16, ∀ form ∈ Forms.callCc a16, ∀ s : State, encode form.2.1 = [form.1, loByte a16, hiByte a16] ∧
    exec form.2.1 s = .next (if form.2.2.holds s.f then { (s.past form.2.1 3).pushed (s.pc + 3) with pc := a16 } else s.past form.2.1 3)) ∧
  ∀ form ∈ Forms.rst, ∀ s : State, encode form.2.1 = [form.1] ∧
    exec form.2.1 s = .next { (s.past form.2.1 1).pushed (s.pc + 1) with pc := form.2.2 }

/-- RET, RET cc, RETI: encoding, PC takes the word at SP, low byte first, and SP rises by 2; RETI sets IME; a condition that fails changes nothing but PC (R208 to R210, R221). -/
def Obligations.Returns : Prop :=
  ∀ s : State,
    (encode .ret = [0xC9] ∧ exec .ret s = .next { s.past .ret 1 with pc := wordOf (s.read8 s.sp) (s.read8 (s.sp + 1)), sp := s.sp + 2 }) ∧
    (∀ form ∈ Forms.retCc, encode form.2.1 = [form.1] ∧
      exec form.2.1 s = .next (if form.2.2.holds s.f
        then { s.past form.2.1 1 with pc := wordOf (s.read8 s.sp) (s.read8 (s.sp + 1)), sp := s.sp + 2 } else s.past form.2.1 1)) ∧
    (encode .reti = [0xD9] ∧
      exec .reti s = .next { s.past .reti 1 with pc := wordOf (s.read8 s.sp) (s.read8 (s.sp + 1)), sp := s.sp + 2, ime := true })

/-- PUSH qq and POP qq: encoding; PUSH stores the pair below SP, low byte at the lower address; POP loads the pair from SP, AF with its low nibble cleared (R222 to R224). Marked by the spec as its own: R220 (decision D11), R224 (derived). -/
def Obligations.PushAndPop : Prop :=
  ∀ s : State,
    (encode .pushBc = [0xC5] ∧ exec .pushBc s = .next ((s.past .pushBc 1).pushed (wordOf s.c s.b))) ∧
    (encode .pushDe = [0xD5] ∧ exec .pushDe s = .next ((s.past .pushDe 1).pushed (wordOf s.e s.d))) ∧
    (encode .pushHl = [0xE5] ∧ exec .pushHl s = .next ((s.past .pushHl 1).pushed (wordOf s.l s.h))) ∧
    (encode .pushAf = [0xF5] ∧ exec .pushAf s = .next ((s.past .pushAf 1).pushed (wordOf s.f s.a))) ∧
    (encode .popBc = [0xC1] ∧ exec .popBc s = .next { s.past .popBc 1 with c := s.read8 s.sp, b := s.read8 (s.sp + 1), sp := s.sp + 2 }) ∧
    (encode .popDe = [0xD1] ∧ exec .popDe s = .next { s.past .popDe 1 with e := s.read8 s.sp, d := s.read8 (s.sp + 1), sp := s.sp + 2 }) ∧
    (encode .popHl = [0xE1] ∧ exec .popHl s = .next { s.past .popHl 1 with l := s.read8 s.sp, h := s.read8 (s.sp + 1), sp := s.sp + 2 }) ∧
    (encode .popAf = [0xF1] ∧ exec .popAf s = .next { s.past .popAf 1 with f := s.read8 s.sp &&& 0xF0, a := s.read8 (s.sp + 1), sp := s.sp + 2 })

/-- A pair pushed to plain storage comes back from a POP, whichever pair takes it, and SP returns to its value; AF takes it without its low nibble (R74, R220, R221). Marked by the spec as its own: R25 (derived), R74 (decision D11), R220 (decision D11), R224 (derived). -/
def Obligations.PushThenPop : Prop :=
  ∀ push ∈ [(Instr.pushBc, Pair.bc), (.pushDe, .de), (.pushHl, .hl), (.pushAf, .af)],
  ∀ pop ∈ [(Instr.popBc, Pair.bc), (.popDe, .de), (.popHl, .hl), (.popAf, .af)],
  ∀ s : State, s.memoryWf → plainStorage (s.sp - 2) = true → plainStorage (s.sp - 1) = true →
    ∃ t u, exec push.1 s = .next t ∧ exec pop.1 t = .next u ∧ u.sp = s.sp ∧
      u.getPair pop.2 = (if pop.2 = .af then s.getPair push.2 &&& 0xFFF0 else s.getPair push.2)

/-! ## Loads and stores -/

/-- LD between 8-bit operands and LD of an immediate: encoding, the destination takes the source's value and nothing else changes; a register destination leaves every other register alone, (HL) is a bus write (R230 to R234). -/
def Obligations.Load8Result : Prop :=
  (∀ form ∈ Forms.ld8, ∀ s : State, encode form.2.1 = [form.1] ∧
    exec form.2.1 s = .next ((s.past form.2.1 1).put8 form.2.2.1 (s.get8 form.2.2.2))) ∧
  (∀ n8, ∀ form ∈ Forms.ld8Imm n8, ∀ s : State, encode form.2.1 = [form.1, n8] ∧
    exec form.2.1 s = .next ((s.past form.2.1 2).put8 form.2.2 n8)) ∧
  ∀ (s : State) (r r' : R8) (v : Byte), r ≠ .atHl → r' ≠ .atHl →
    (s.put8 r v).get8 r' = (if r' = r then v else s.get8 r') ∧ s.put8 .atHl v = s.write8 (wordOf s.l s.h) v ∧
    s.get8 .atHl = s.read8 (wordOf s.l s.h)

/-- Loads of A from memory: encoding, A takes the byte at the operand's address, and HL moves after the access where the operand says so (R235, R236, R239, R240, R247, R249, R251). Marked by the spec as its own: R249 (general knowledge), R251 (general knowledge, decision D31). -/
def Obligations.LoadAResult : Prop :=
  ∀ (a8 : Byte) (a16 : Word) (s : State),
    (encode .ldAAtBc = [0x0A] ∧ exec .ldAAtBc s = .next { s.past .ldAAtBc 1 with a := s.read8 (wordOf s.c s.b) }) ∧
    (encode .ldAAtDe = [0x1A] ∧ exec .ldAAtDe s = .next { s.past .ldAAtDe 1 with a := s.read8 (wordOf s.e s.d) }) ∧
    (encode .ldAAtHlInc = [0x2A] ∧ exec .ldAAtHlInc s = .next { s.past .ldAAtHlInc 1 with
      a := s.read8 (wordOf s.l s.h), h := hiByte (wordOf s.l s.h + 1), l := loByte (wordOf s.l s.h + 1) }) ∧
    (encode .ldAAtHlDec = [0x3A] ∧ exec .ldAAtHlDec s = .next { s.past .ldAAtHlDec 1 with
      a := s.read8 (wordOf s.l s.h), h := hiByte (wordOf s.l s.h - 1), l := loByte (wordOf s.l s.h - 1) }) ∧
    (encode (.ldAAtA16 a16) = [0xFA, loByte a16, hiByte a16] ∧ exec (.ldAAtA16 a16) s = .next { s.past (.ldAAtA16 a16) 3 with a := s.read8 a16 }) ∧
    (encode (.ldhAAtA8 a8) = [0xF0, a8] ∧
      exec (.ldhAAtA8 a8) s = .next { s.past (.ldhAAtA8 a8) 2 with a := s.read8 (BitVec.ofNat 16 (0xFF00 + a8.toNat)) }) ∧
    (encode .ldAAtC = [0xF2] ∧ exec .ldAAtC s = .next { s.past .ldAAtC 1 with a := s.read8 (BitVec.ofNat 16 (0xFF00 + s.c.toNat)) })

/-- Stores of A to memory: encoding, a bus write of A at the operand's address, and HL moves after the access where the operand says so (R237, R238, R241, R242, R246, R248, R250). Marked by the spec as its own: R248 (general knowledge), R250 (general knowledge, decision D31). -/
def Obligations.StoreAResult : Prop :=
  ∀ (a8 : Byte) (a16 : Word) (s : State),
    (encode .ldAtBcA = [0x02] ∧ exec .ldAtBcA s = .next ((s.past .ldAtBcA 1).write8 (wordOf s.c s.b) s.a)) ∧
    (encode .ldAtDeA = [0x12] ∧ exec .ldAtDeA s = .next ((s.past .ldAtDeA 1).write8 (wordOf s.e s.d) s.a)) ∧
    (encode .ldAtHlIncA = [0x22] ∧ exec .ldAtHlIncA s = .next { (s.past .ldAtHlIncA 1).write8 (wordOf s.l s.h) s.a with
      h := hiByte (wordOf s.l s.h + 1), l := loByte (wordOf s.l s.h + 1) }) ∧
    (encode .ldAtHlDecA = [0x32] ∧ exec .ldAtHlDecA s = .next { (s.past .ldAtHlDecA 1).write8 (wordOf s.l s.h) s.a with
      h := hiByte (wordOf s.l s.h - 1), l := loByte (wordOf s.l s.h - 1) }) ∧
    (encode (.ldAtA16A a16) = [0xEA, loByte a16, hiByte a16] ∧ exec (.ldAtA16A a16) s = .next ((s.past (.ldAtA16A a16) 3).write8 a16 s.a)) ∧
    (encode (.ldhAtA8A a8) = [0xE0, a8] ∧
      exec (.ldhAtA8A a8) s = .next ((s.past (.ldhAtA8A a8) 2).write8 (BitVec.ofNat 16 (0xFF00 + a8.toNat)) s.a)) ∧
    (encode .ldAtCA = [0xE2] ∧ exec .ldAtCA s = .next ((s.past .ldAtCA 1).write8 (BitVec.ofNat 16 (0xFF00 + s.c.toNat)) s.a))

/-- LD dd,n16, LD (a16),SP, LD SP,HL: encoding and result, low byte of SP at the lower address; nothing else changed (R243 to R245). -/
def Obligations.Load16Result : Prop :=
  (∀ n16, ∀ form ∈ Forms.ld16 n16, ∀ s : State, encode form.2.1 = [form.1, loByte n16, hiByte n16] ∧
    exec form.2.1 s = .next ((s.past form.2.1 3).put16 form.2.2 n16) ∧ ((s.past form.2.1 3).put16 form.2.2 n16).get16 form.2.2 = n16) ∧
  (∀ (a16 : Word) (s : State), encode (.ldAtA16Sp a16) = [0x08, loByte a16, hiByte a16] ∧
    exec (.ldAtA16Sp a16) s = .next (((s.past (.ldAtA16Sp a16) 3).write8 a16 (loByte s.sp)).write8 (a16 + 1) (hiByte s.sp))) ∧
  ∀ s : State, encode .ldSpHl = [0xF9] ∧ exec .ldSpHl s = .next { s.past .ldSpHl 1 with sp := wordOf s.l s.h }

/-! ## System instructions, rotates and the prefixed table -/

/-- NOP, DI, STOP and, in FULL, EI and HALT: encoding, what each writes, and nothing else; in CORE EI and HALT raise UnsupportedOpcode (R260 to R263, R265). Marked by the spec as its own: R140 (general knowledge, decision D25), R261 (general knowledge, decision D38), R262 (general knowledge, decision D2, D29), R263 (general knowledge, decision D25), R265 (general knowledge, decision D2, D29), R302 (decision D2). -/
def Obligations.SystemInstructions : Prop :=
  ∀ s : State,
    (encode .nop = [0x00] ∧ exec .nop s = .next (s.past .nop 1)) ∧
    (encode .di = [0xF3] ∧ exec .di s = .next { s.past .di 1 with ime := false }) ∧
    (∀ x, encode (.stop x) = [0x10, x] ∧ exec (.stop x) s = .next { s.past (.stop x) 2 with run := .stopped }) ∧
    (encode .ei = [0xFB] ∧ (s.cfg.profile = .full → exec .ei s = .next { s.past .ei 1 with ime := true }) ∧
      (s.cfg.profile = .core → exec .ei s = .next (s.unsupported [0xFB] false))) ∧
    (encode .halt = [0x76] ∧ (s.cfg.profile = .full → exec .halt s = .next { s.past .halt 1 with run := .halted }) ∧
      (s.cfg.profile = .core → exec .halt s = .next (s.unsupported [0x76] false)))

/-- RLCA, RRCA, RLA, RRA in FULL: encoding, the rotated A, flags 0 0 0 C; in CORE UnsupportedOpcode (R280 to R283). Marked by the spec as its own: R280 (general knowledge, decision D2), R281 (general knowledge, decision D2), R282 (general knowledge, decision D2), R283 (general knowledge, decision D2), R302 (decision D2). -/
def Obligations.RotateAResult : Prop :=
  ∀ form ∈ Forms.rotateA, ∀ s : State, encode form.2.1 = [form.1] ∧
    (s.cfg.profile = .core → exec form.2.1 s = .next (s.unsupported [form.1] false)) ∧
    (s.cfg.profile = .full → ∃ res f : Byte, exec form.2.1 s = .next { s.past form.2.1 1 with a := res, f := f } ∧
      res.toNat = (shiftNumber form.2.2 s.a.toNat (s.f.getLsbD 4).toNat).1 ∧
      FlagsAre f false false false (shiftNumber form.2.2 s.a.toNat (s.f.getLsbD 4).toNat).2)

/-- RLC, RRC, RL, RR, SLA, SRA, SWAP, SRL of every operand in FULL: encoding, the operand's new value, flags Z 0 0 C; in CORE UnsupportedOpcode with both bytes (R284 to R292). Marked by the spec as its own: R284 (general knowledge), R285 (general knowledge, decision D2), R286 (general knowledge, decision D2), R287 (general knowledge, decision D2), R288 (general knowledge, decision D2), R289 (general knowledge, decision D2), R290 (general knowledge, decision D2), R291 (general knowledge, decision D2), R292 (general knowledge, decision D2), R302 (decision D2). -/
def Obligations.ShiftResult : Prop :=
  ∀ form ∈ Forms.shift, ∀ s : State, encode form.2.1 = [0xCB, form.1] ∧
    (s.cfg.profile = .core → exec form.2.1 s = .next (s.unsupported [0xCB, form.1] true)) ∧
    (s.cfg.profile = .full → ∃ res f : Byte,
      exec form.2.1 s = .next { s.put8 form.2.2.2 res with f := f, pc := s.pc + 2, lastDecoded := form.2.1.descriptor } ∧
      res.toNat = (shiftNumber form.2.2.1 (s.get8 form.2.2.2).toNat (s.f.getLsbD 4).toNat).1 ∧
      FlagsAre f (decide (res = 0)) false false (shiftNumber form.2.2.1 (s.get8 form.2.2.2).toNat (s.f.getLsbD 4).toNat).2)

/-- BIT, RES, SET of every bit of every operand in FULL: encoding; BIT writes Z 0 1 - and stores nothing; RES and SET change the one bit and no flag; in CORE UnsupportedOpcode with both bytes (R293 to R295). Marked by the spec as its own: R284 (general knowledge), R293 (general knowledge, decision D2, D37), R294 (general knowledge, decision D2), R295 (general knowledge, decision D2), R302 (decision D2). -/
def Obligations.BitResult : Prop :=
  (∀ form ∈ Forms.bit ++ Forms.res ++ Forms.set, ∀ s : State, encode form.2.1 = [0xCB, form.1] ∧
    (s.cfg.profile = .core → exec form.2.1 s = .next (s.unsupported [0xCB, form.1] true))) ∧
  (∀ form ∈ Forms.bit, ∀ s : State, s.cfg.profile = .full → ∃ f : Byte, exec form.2.1 s = .next { s.past form.2.1 2 with f := f } ∧
    FlagsAre f (decide ((s.get8 form.2.2.2).toNat / 2 ^ form.2.2.1 % 2 = 0)) false true (s.f.getLsbD 4)) ∧
  (∀ form ∈ Forms.res, ∀ s : State, s.cfg.profile = .full → ∃ res : Byte,
    exec form.2.1 s = .next ((s.past form.2.1 2).put8 form.2.2.2 res) ∧
    ∀ k, res.getLsbD k = if k = form.2.2.1 then false else (s.get8 form.2.2.2).getLsbD k) ∧
  (∀ form ∈ Forms.set, ∀ s : State, s.cfg.profile = .full → ∃ res : Byte,
    exec form.2.1 s = .next ((s.past form.2.1 2).put8 form.2.2.2 res) ∧
    ∀ k, k < 8 → res.getLsbD k = if k = form.2.2.1 then true else (s.get8 form.2.2.2).getLsbD k)
end

