-- ==== Sys2Proof/Laws/Memory.lean ====
section
/-! SUPPORT. Byte arrays: read after write, and the canonical form kept by every operation. -/

namespace Sys2Proof.Machine

/-- Nothing below the first index is listed, so it reads as an unlisted byte. -/
theorem Memory.read_below {m : Memory} : ∀ {lo i : Nat}, Memory.wfFrom lo m = true → i < lo → m.read i = Config.unlisted := by
  induction m with
  | nil => intros; rfl
  | cons cell rest ih =>
    obtain ⟨k, v⟩ := cell
    intro lo i h hi
    simp only [Memory.wfFrom, Bool.and_eq_true, decide_eq_true_eq] at h
    simp only [Memory.read]
    rw [if_neg (by omega)]
    exact ih h.2 (by omega)

theorem Memory.wfFrom_mono {m : Memory} {lo lo' : Nat} (h : Memory.wfFrom lo m = true) (le : lo' ≤ lo) : Memory.wfFrom lo' m = true := by
  cases m with
  | nil => rfl
  | cons cell rest =>
    obtain ⟨k, v⟩ := cell
    simp only [Memory.wfFrom, Bool.and_eq_true, decide_eq_true_eq] at h ⊢
    exact ⟨⟨by omega, h.1.2⟩, h.2⟩

/-- A write keeps the canonical form. -/
theorem Memory.wfFrom_write {m : Memory} : ∀ {lo i : Nat} (v : Byte), Memory.wfFrom lo m = true → lo ≤ i → Memory.wfFrom lo (m.write i v) = true := by
  induction m with
  | nil =>
    intro lo i v _ hi
    simp only [Memory.write]
    split
    · rfl
    · simp [Memory.wfFrom, *]
  | cons cell rest ih =>
    obtain ⟨k, w⟩ := cell
    intro lo i v h hi
    simp only [Memory.wfFrom, Bool.and_eq_true, decide_eq_true_eq] at h
    simp only [Memory.write]
    split
    · simp only [Memory.wfFrom, Bool.and_eq_true, decide_eq_true_eq]
      exact ⟨h.1, ih v h.2 (by omega)⟩
    · split
      · subst k
        split
        · exact Memory.wfFrom_mono h.2 (by omega)
        · simp only [Memory.wfFrom, Bool.and_eq_true, decide_eq_true_eq]
          exact ⟨⟨hi, ‹_›⟩, h.2⟩
      · split
        · simp only [Memory.wfFrom, Bool.and_eq_true, decide_eq_true_eq]
          exact h
        · simp only [Memory.wfFrom, Bool.and_eq_true, decide_eq_true_eq]
          exact ⟨⟨hi, ‹_›⟩, ⟨by omega, h.1.2⟩, h.2⟩

/-- Storing a byte keeps an array in canonical form. -/
theorem Memory.wf_write {m : Memory} (i : Nat) (v : Byte) (h : m.wf = true) : (m.write i v).wf = true :=
  Memory.wfFrom_write v h (Nat.zero_le i)

/-- Storing a byte within an array's size keeps it within its size. -/
theorem Memory.within_write {m : Memory} {size i : Nat} (v : Byte) (h : m.within size = true) (hi : i < size) : (m.write i v).within size = true := by
  induction m with
  | nil =>
    simp only [Memory.write]
    split <;> simp [Memory.within, hi]
  | cons cell rest ih =>
    obtain ⟨k, w⟩ := cell
    simp only [Memory.within, List.all_cons, Bool.and_eq_true, decide_eq_true_eq] at h ih
    simp only [Memory.write]
    split
    · simpa [Memory.within, h.1] using ih h.2
    · split <;> split <;> simp [Memory.within, hi, h.1] <;> simpa using h.2

/-- Read after write: the index written gives the byte, every other index what it gave before. -/
theorem Memory.read_write {m : Memory} : ∀ {lo : Nat} (i j : Nat) (v : Byte), Memory.wfFrom lo m = true →
    (m.write i v).read j = if i = j then v else m.read j := by
  induction m with
  | nil =>
    intro lo i j v _
    simp only [Memory.write]
    split
    · simp only [Memory.read]; split <;> simp_all
    · simp [Memory.read]
  | cons cell rest ih =>
    obtain ⟨k, w⟩ := cell
    intro lo i j v h
    simp only [Memory.wfFrom, Bool.and_eq_true, decide_eq_true_eq] at h
    simp only [Memory.write]
    split
    · simp only [Memory.read, ih i j v h.2]
      split
      · rw [if_neg (by omega)]
      · rfl
    · split
      · subst k
        split
        · simp only [Memory.read]
          split
          · subst j; rw [Memory.read_below h.2 (by omega)]; simp_all
          · rfl
        · simp only [Memory.read]; split <;> rfl
      · split
        · split
          · subst j
            rw [Memory.read, if_neg (by omega), Memory.read_below h.2 (by omega)]
            simp_all
          · rfl
        · simp [Memory.read]

/-- Read after write of an array in canonical form. -/
theorem Memory.read_write_wf {m : Memory} (h : m.wf = true) (i j : Nat) (v : Byte) :
    (m.write i v).read j = if i = j then v else m.read j :=
  Memory.read_write i j v h

/-- Two arrays in canonical form that read alike are equal. -/
theorem Memory.eq_of_read {m : Memory} : ∀ {lo : Nat} {m' : Memory}, Memory.wfFrom lo m = true → Memory.wfFrom lo m' = true →
    (∀ i, m.read i = m'.read i) → m = m' := by
  induction m with
  | nil =>
    intro lo m' _ h' hr
    cases m' with
    | nil => rfl
    | cons cell rest =>
      obtain ⟨k, v⟩ := cell
      simp only [Memory.wfFrom, Bool.and_eq_true, decide_eq_true_eq] at h'
      have := hr k
      simp [Memory.read] at this
      exact absurd this.symm h'.1.2
  | cons cell rest ih =>
    obtain ⟨k, v⟩ := cell
    intro lo m' h h' hr
    simp only [Memory.wfFrom, Bool.and_eq_true, decide_eq_true_eq] at h
    cases m' with
    | nil =>
      have := hr k
      simp [Memory.read] at this
      exact absurd this h.1.2
    | cons cell' rest' =>
      obtain ⟨k', v'⟩ := cell'
      simp only [Memory.wfFrom, Bool.and_eq_true, decide_eq_true_eq] at h'
      have hk : k = k' := by
        rcases Nat.lt_trichotomy k k' with lt | eq | gt
        · have := hr k
          rw [Memory.read, if_pos rfl, Memory.read, if_neg (by omega), Memory.read_below h'.2 (by omega)] at this
          exact absurd this h.1.2
        · exact eq
        · have := hr k'
          rw [Memory.read, if_neg (by omega), Memory.read_below h.2 (by omega), Memory.read, if_pos rfl] at this
          exact absurd this.symm h'.1.2
      subst hk
      have hv : v = v' := by simpa [Memory.read] using hr k
      subst hv
      congr 1
      refine ih h.2 h'.2 fun i => ?_
      by_cases hi : i < k + 1
      · rw [Memory.read_below h.2 hi, Memory.read_below h'.2 hi]
      · have := hr i
        rwa [Memory.read, if_neg (by omega), Memory.read, if_neg (by omega)] at this

/-- The list made of bytes is in canonical form. -/
theorem Memory.wfFrom_ofBytes (bytes : List Byte) : ∀ i : Nat, Memory.wfFrom i (Memory.ofBytes i bytes) = true := by
  induction bytes with
  | nil => intro i; rfl
  | cons v rest ih =>
    intro i
    simp only [Memory.ofBytes]
    split
    · exact Memory.wfFrom_mono (ih (i + 1)) (by omega)
    · simp only [Memory.wfFrom, Bool.and_eq_true, decide_eq_true_eq]
      exact ⟨⟨Nat.le_refl i, ‹_›⟩, ih (i + 1)⟩

/-- The list made of bytes reads as those bytes. -/
theorem Memory.read_ofBytes (bytes : List Byte) : ∀ i j : Nat,
    (Memory.ofBytes i bytes).read (i + j) = bytes.getD j Config.unlisted := by
  induction bytes with
  | nil => intro i j; simp [Memory.ofBytes, Memory.read]
  | cons v rest ih =>
    intro i j
    simp only [Memory.ofBytes]
    cases j with
    | zero =>
      split
      · rw [Memory.read_below (Memory.wfFrom_ofBytes rest (i + 1)) (by omega)]; simp_all
      · simp [Memory.read]
    | succ j =>
      have h := ih (i + 1) j
      rw [show i + 1 + j = i + (j + 1) from by omega] at h
      split
      · simpa using h
      · rw [Memory.read, if_neg (by omega), h]; simp

/-- The list made of bytes lies within their number. -/
theorem Memory.within_ofBytes (bytes : List Byte) : ∀ i : Nat, (Memory.ofBytes i bytes).within (i + bytes.length) = true := by
  induction bytes with
  | nil => intro i; rfl
  | cons v rest ih =>
    intro i
    have h := ih (i + 1)
    rw [show i + 1 + rest.length = i + (v :: rest).length from by simp; omega] at h
    simp only [Memory.ofBytes]
    split
    · exact h
    · simp only [Memory.within, List.all_cons, Bool.and_eq_true, decide_eq_true_eq] at h ⊢
      exact ⟨by simp, h⟩

@[simp] theorem Rom.ofBytes_len (bytes : List Byte) : (Rom.ofBytes bytes).len = bytes.length := rfl

@[simp] theorem Rom.ofBytes_cells (bytes : List Byte) : (Rom.ofBytes bytes).cells = Memory.ofBytes 0 bytes := rfl

/-- A byte of a loaded image (R87): the byte the host gave, or ROM_OOB_READ past the end. -/
theorem Rom.byte_ofBytes (cfg : Config) (bytes : List Byte) (o : Nat) :
    (Rom.ofBytes bytes).byte cfg o = bytes.getD o cfg.romOobRead := by
  unfold Rom.byte
  by_cases ho : o < (Rom.ofBytes bytes).len
  · have h := Memory.read_ofBytes bytes 0 o
    rw [Nat.zero_add] at h
    rw [if_pos ho, Rom.ofBytes_cells, h]
    rw [Rom.ofBytes_len] at ho
    simp [List.getD, ho]
  · rw [if_neg ho]
    rw [Rom.ofBytes_len, Nat.not_lt] at ho
    simp [List.getD, List.getElem?_eq_none ho]

/-- A loaded image is in canonical form. -/
theorem Rom.wf_ofBytes (bytes : List Byte) : (Rom.ofBytes bytes).wf = true := by
  have h := Memory.within_ofBytes bytes 0
  rw [Nat.zero_add] at h
  simp [Rom.wf, Rom.ofBytes, Memory.wf, Memory.wfFrom_ofBytes, h]

/-- A register write of the controller leaves external RAM alone (R80 to R83). -/
@[simp] theorem Mbc.writeRegister_eram (m : Mbc) (a : Word) (v : Byte) : (m.writeRegister a v).eram = m.eram := by
  unfold Mbc.writeRegister; split <;> (try split) <;> (try split) <;> rfl

/-- A store to the ROM range keeps the cartridge in canonical form. -/
theorem Cart.wf_writeRom {cfg : Config} {cart : Cart} (a : Word) (v : Byte) (h : cart.wf cfg = true) : (cart.writeRom a v).wf cfg = true := by
  cases cart with
  | absent => rfl
  | noBanking rom => exact h
  | bankSwitching rom m => simpa [Cart.writeRom, Cart.wf] using h

/-- A store to the external RAM range keeps the cartridge in canonical form. -/
theorem Cart.wf_writeRam {cfg : Config} {cart : Cart} (a : Word) (v : Byte) (hs : 0 < cfg.extRamSize) (h : cart.wf cfg = true) :
    (cart.writeRam cfg a v).wf cfg = true := by
  cases cart with
  | absent => rfl
  | noBanking rom => exact h
  | bankSwitching rom m =>
    simp only [Cart.writeRam]
    split
    · simp only [Cart.wf, Bool.and_eq_true] at h ⊢
      exact ⟨⟨h.1.1, Memory.wf_write _ v h.1.2⟩, Memory.within_write v h.2 (Nat.mod_lt _ hs)⟩
    · exact h

/-- A filled array is in canonical form. -/
theorem Memory.wf_filled (size : Nat) (v : Byte) : (Memory.filled size v).wf = true := by
  unfold Memory.filled
  split
  · rfl
  · exact Memory.wfFrom_ofBytes _ 0

/-- A filled array lies within its size. -/
theorem Memory.within_filled (size : Nat) (v : Byte) : (Memory.filled size v).within size = true := by
  unfold Memory.filled
  split
  · rfl
  · simpa using Memory.within_ofBytes (List.replicate size v) 0

/-- Every byte of a filled array is the one it was filled with. -/
theorem Memory.read_filled {size i : Nat} (v : Byte) (h : i < size) : (Memory.filled size v).read i = v := by
  unfold Memory.filled
  split
  · exact Eq.symm ‹_›
  · have := Memory.read_ofBytes (List.replicate size v) 0 i
    simpa [h] using this

end Sys2Proof.Machine
end

