-- ==== Sys2Proof/Laws/State.lean ====
section
/-! SUPPORT. What each update of a state leaves alone and what it writes, one fact per field per update, so that no later proof unfolds a record update. -/

namespace Sys2Proof.Machine

@[simp] theorem State.setArray_a (s : State) (st : Store) (m : Memory) : (s.setArray st m).a = s.a := by cases st <;> rfl
@[simp] theorem State.setArray_f (s : State) (st : Store) (m : Memory) : (s.setArray st m).f = s.f := by cases st <;> rfl
@[simp] theorem State.setArray_b (s : State) (st : Store) (m : Memory) : (s.setArray st m).b = s.b := by cases st <;> rfl
@[simp] theorem State.setArray_c (s : State) (st : Store) (m : Memory) : (s.setArray st m).c = s.c := by cases st <;> rfl
@[simp] theorem State.setArray_d (s : State) (st : Store) (m : Memory) : (s.setArray st m).d = s.d := by cases st <;> rfl
@[simp] theorem State.setArray_e (s : State) (st : Store) (m : Memory) : (s.setArray st m).e = s.e := by cases st <;> rfl
@[simp] theorem State.setArray_h (s : State) (st : Store) (m : Memory) : (s.setArray st m).h = s.h := by cases st <;> rfl
@[simp] theorem State.setArray_l (s : State) (st : Store) (m : Memory) : (s.setArray st m).l = s.l := by cases st <;> rfl
@[simp] theorem State.setArray_sp (s : State) (st : Store) (m : Memory) : (s.setArray st m).sp = s.sp := by cases st <;> rfl
@[simp] theorem State.setArray_pc (s : State) (st : Store) (m : Memory) : (s.setArray st m).pc = s.pc := by cases st <;> rfl
@[simp] theorem State.setArray_ime (s : State) (st : Store) (m : Memory) : (s.setArray st m).ime = s.ime := by cases st <;> rfl
@[simp] theorem State.setArray_fault (s : State) (st : Store) (m : Memory) : (s.setArray st m).fault = s.fault := by cases st <;> rfl
@[simp] theorem State.setArray_run (s : State) (st : Store) (m : Memory) : (s.setArray st m).run = s.run := by cases st <;> rfl
@[simp] theorem State.setArray_lastDecoded (s : State) (st : Store) (m : Memory) : (s.setArray st m).lastDecoded = s.lastDecoded := by cases st <;> rfl
@[simp] theorem State.setArray_cart (s : State) (st : Store) (m : Memory) : (s.setArray st m).cart = s.cart := by cases st <;> rfl
@[simp] theorem State.setArray_cfg (s : State) (st : Store) (m : Memory) : (s.setArray st m).cfg = s.cfg := by cases st <;> rfl

@[simp] theorem State.poke_a (s : State) (st : Store) (i : Nat) (v : Byte) : (s.poke st i v).a = s.a := by cases st <;> rfl
@[simp] theorem State.poke_f (s : State) (st : Store) (i : Nat) (v : Byte) : (s.poke st i v).f = s.f := by cases st <;> rfl
@[simp] theorem State.poke_b (s : State) (st : Store) (i : Nat) (v : Byte) : (s.poke st i v).b = s.b := by cases st <;> rfl
@[simp] theorem State.poke_c (s : State) (st : Store) (i : Nat) (v : Byte) : (s.poke st i v).c = s.c := by cases st <;> rfl
@[simp] theorem State.poke_d (s : State) (st : Store) (i : Nat) (v : Byte) : (s.poke st i v).d = s.d := by cases st <;> rfl
@[simp] theorem State.poke_e (s : State) (st : Store) (i : Nat) (v : Byte) : (s.poke st i v).e = s.e := by cases st <;> rfl
@[simp] theorem State.poke_h (s : State) (st : Store) (i : Nat) (v : Byte) : (s.poke st i v).h = s.h := by cases st <;> rfl
@[simp] theorem State.poke_l (s : State) (st : Store) (i : Nat) (v : Byte) : (s.poke st i v).l = s.l := by cases st <;> rfl
@[simp] theorem State.poke_sp (s : State) (st : Store) (i : Nat) (v : Byte) : (s.poke st i v).sp = s.sp := by cases st <;> rfl
@[simp] theorem State.poke_pc (s : State) (st : Store) (i : Nat) (v : Byte) : (s.poke st i v).pc = s.pc := by cases st <;> rfl
@[simp] theorem State.poke_ime (s : State) (st : Store) (i : Nat) (v : Byte) : (s.poke st i v).ime = s.ime := by cases st <;> rfl
@[simp] theorem State.poke_fault (s : State) (st : Store) (i : Nat) (v : Byte) : (s.poke st i v).fault = s.fault := by cases st <;> rfl
@[simp] theorem State.poke_run (s : State) (st : Store) (i : Nat) (v : Byte) : (s.poke st i v).run = s.run := by cases st <;> rfl
@[simp] theorem State.poke_lastDecoded (s : State) (st : Store) (i : Nat) (v : Byte) : (s.poke st i v).lastDecoded = s.lastDecoded := by cases st <;> rfl
@[simp] theorem State.poke_cart (s : State) (st : Store) (i : Nat) (v : Byte) : (s.poke st i v).cart = s.cart := by cases st <;> rfl
@[simp] theorem State.poke_cfg (s : State) (st : Store) (i : Nat) (v : Byte) : (s.poke st i v).cfg = s.cfg := by cases st <;> rfl

@[simp] theorem State.setFlags_a (s : State) (z n h c : Option Bool) : (s.setFlags z n h c).a = s.a := rfl
@[simp] theorem State.setFlags_b (s : State) (z n h c : Option Bool) : (s.setFlags z n h c).b = s.b := rfl
@[simp] theorem State.setFlags_c (s : State) (z n h c : Option Bool) : (s.setFlags z n h c).c = s.c := rfl
@[simp] theorem State.setFlags_d (s : State) (z n h c : Option Bool) : (s.setFlags z n h c).d = s.d := rfl
@[simp] theorem State.setFlags_e (s : State) (z n h c : Option Bool) : (s.setFlags z n h c).e = s.e := rfl
@[simp] theorem State.setFlags_h (s : State) (z n h c : Option Bool) : (s.setFlags z n h c).h = s.h := rfl
@[simp] theorem State.setFlags_l (s : State) (z n h c : Option Bool) : (s.setFlags z n h c).l = s.l := rfl
@[simp] theorem State.setFlags_sp (s : State) (z n h c : Option Bool) : (s.setFlags z n h c).sp = s.sp := rfl
@[simp] theorem State.setFlags_pc (s : State) (z n h c : Option Bool) : (s.setFlags z n h c).pc = s.pc := rfl
@[simp] theorem State.setFlags_ime (s : State) (z n h c : Option Bool) : (s.setFlags z n h c).ime = s.ime := rfl
@[simp] theorem State.setFlags_fault (s : State) (z n h c : Option Bool) : (s.setFlags z n h c).fault = s.fault := rfl
@[simp] theorem State.setFlags_run (s : State) (z n h c : Option Bool) : (s.setFlags z n h c).run = s.run := rfl
@[simp] theorem State.setFlags_lastDecoded (s : State) (z n h c : Option Bool) : (s.setFlags z n h c).lastDecoded = s.lastDecoded := rfl
@[simp] theorem State.setFlags_vram (s : State) (z n h c : Option Bool) : (s.setFlags z n h c).vram = s.vram := rfl
@[simp] theorem State.setFlags_wram0 (s : State) (z n h c : Option Bool) : (s.setFlags z n h c).wram0 = s.wram0 := rfl
@[simp] theorem State.setFlags_wram1 (s : State) (z n h c : Option Bool) : (s.setFlags z n h c).wram1 = s.wram1 := rfl
@[simp] theorem State.setFlags_oam (s : State) (z n h c : Option Bool) : (s.setFlags z n h c).oam = s.oam := rfl
@[simp] theorem State.setFlags_io (s : State) (z n h c : Option Bool) : (s.setFlags z n h c).io = s.io := rfl
@[simp] theorem State.setFlags_hram (s : State) (z n h c : Option Bool) : (s.setFlags z n h c).hram = s.hram := rfl
@[simp] theorem State.setFlags_cart (s : State) (z n h c : Option Bool) : (s.setFlags z n h c).cart = s.cart := rfl
@[simp] theorem State.setFlags_cfg (s : State) (z n h c : Option Bool) : (s.setFlags z n h c).cfg = s.cfg := rfl
@[simp] theorem State.setFlags_array (s : State) (z n h c : Option Bool) (st : Store) : (s.setFlags z n h c).array st = s.array st := rfl
@[simp] theorem State.setFlags_read8 (s : State) (z n h c : Option Bool) (p : Word) : (s.setFlags z n h c).read8 p = s.read8 p := rfl

@[simp] theorem State.setF_a (s : State) (v : Byte) : (s.setF v).a = s.a := rfl
@[simp] theorem State.setF_b (s : State) (v : Byte) : (s.setF v).b = s.b := rfl
@[simp] theorem State.setF_c (s : State) (v : Byte) : (s.setF v).c = s.c := rfl
@[simp] theorem State.setF_d (s : State) (v : Byte) : (s.setF v).d = s.d := rfl
@[simp] theorem State.setF_e (s : State) (v : Byte) : (s.setF v).e = s.e := rfl
@[simp] theorem State.setF_h (s : State) (v : Byte) : (s.setF v).h = s.h := rfl
@[simp] theorem State.setF_l (s : State) (v : Byte) : (s.setF v).l = s.l := rfl
@[simp] theorem State.setF_sp (s : State) (v : Byte) : (s.setF v).sp = s.sp := rfl
@[simp] theorem State.setF_pc (s : State) (v : Byte) : (s.setF v).pc = s.pc := rfl
@[simp] theorem State.setF_ime (s : State) (v : Byte) : (s.setF v).ime = s.ime := rfl
@[simp] theorem State.setF_fault (s : State) (v : Byte) : (s.setF v).fault = s.fault := rfl
@[simp] theorem State.setF_run (s : State) (v : Byte) : (s.setF v).run = s.run := rfl
@[simp] theorem State.setF_lastDecoded (s : State) (v : Byte) : (s.setF v).lastDecoded = s.lastDecoded := rfl
@[simp] theorem State.setF_vram (s : State) (v : Byte) : (s.setF v).vram = s.vram := rfl
@[simp] theorem State.setF_wram0 (s : State) (v : Byte) : (s.setF v).wram0 = s.wram0 := rfl
@[simp] theorem State.setF_wram1 (s : State) (v : Byte) : (s.setF v).wram1 = s.wram1 := rfl
@[simp] theorem State.setF_oam (s : State) (v : Byte) : (s.setF v).oam = s.oam := rfl
@[simp] theorem State.setF_io (s : State) (v : Byte) : (s.setF v).io = s.io := rfl
@[simp] theorem State.setF_hram (s : State) (v : Byte) : (s.setF v).hram = s.hram := rfl
@[simp] theorem State.setF_cart (s : State) (v : Byte) : (s.setF v).cart = s.cart := rfl
@[simp] theorem State.setF_cfg (s : State) (v : Byte) : (s.setF v).cfg = s.cfg := rfl
@[simp] theorem State.setF_array (s : State) (v : Byte) (st : Store) : (s.setF v).array st = s.array st := rfl
@[simp] theorem State.setF_read8 (s : State) (v : Byte) (p : Word) : (s.setF v).read8 p = s.read8 p := rfl

@[simp] theorem State.setBc_a (s : State) (v : Word) : (s.setBc v).a = s.a := rfl
@[simp] theorem State.setBc_f (s : State) (v : Word) : (s.setBc v).f = s.f := rfl
@[simp] theorem State.setBc_d (s : State) (v : Word) : (s.setBc v).d = s.d := rfl
@[simp] theorem State.setBc_e (s : State) (v : Word) : (s.setBc v).e = s.e := rfl
@[simp] theorem State.setBc_h (s : State) (v : Word) : (s.setBc v).h = s.h := rfl
@[simp] theorem State.setBc_l (s : State) (v : Word) : (s.setBc v).l = s.l := rfl
@[simp] theorem State.setBc_sp (s : State) (v : Word) : (s.setBc v).sp = s.sp := rfl
@[simp] theorem State.setBc_pc (s : State) (v : Word) : (s.setBc v).pc = s.pc := rfl
@[simp] theorem State.setBc_ime (s : State) (v : Word) : (s.setBc v).ime = s.ime := rfl
@[simp] theorem State.setBc_fault (s : State) (v : Word) : (s.setBc v).fault = s.fault := rfl
@[simp] theorem State.setBc_run (s : State) (v : Word) : (s.setBc v).run = s.run := rfl
@[simp] theorem State.setBc_lastDecoded (s : State) (v : Word) : (s.setBc v).lastDecoded = s.lastDecoded := rfl
@[simp] theorem State.setBc_vram (s : State) (v : Word) : (s.setBc v).vram = s.vram := rfl
@[simp] theorem State.setBc_wram0 (s : State) (v : Word) : (s.setBc v).wram0 = s.wram0 := rfl
@[simp] theorem State.setBc_wram1 (s : State) (v : Word) : (s.setBc v).wram1 = s.wram1 := rfl
@[simp] theorem State.setBc_oam (s : State) (v : Word) : (s.setBc v).oam = s.oam := rfl
@[simp] theorem State.setBc_io (s : State) (v : Word) : (s.setBc v).io = s.io := rfl
@[simp] theorem State.setBc_hram (s : State) (v : Word) : (s.setBc v).hram = s.hram := rfl
@[simp] theorem State.setBc_cart (s : State) (v : Word) : (s.setBc v).cart = s.cart := rfl
@[simp] theorem State.setBc_cfg (s : State) (v : Word) : (s.setBc v).cfg = s.cfg := rfl
@[simp] theorem State.setBc_array (s : State) (v : Word) (st : Store) : (s.setBc v).array st = s.array st := rfl
@[simp] theorem State.setBc_read8 (s : State) (v : Word) (p : Word) : (s.setBc v).read8 p = s.read8 p := rfl

@[simp] theorem State.setDe_a (s : State) (v : Word) : (s.setDe v).a = s.a := rfl
@[simp] theorem State.setDe_f (s : State) (v : Word) : (s.setDe v).f = s.f := rfl
@[simp] theorem State.setDe_b (s : State) (v : Word) : (s.setDe v).b = s.b := rfl
@[simp] theorem State.setDe_c (s : State) (v : Word) : (s.setDe v).c = s.c := rfl
@[simp] theorem State.setDe_h (s : State) (v : Word) : (s.setDe v).h = s.h := rfl
@[simp] theorem State.setDe_l (s : State) (v : Word) : (s.setDe v).l = s.l := rfl
@[simp] theorem State.setDe_sp (s : State) (v : Word) : (s.setDe v).sp = s.sp := rfl
@[simp] theorem State.setDe_pc (s : State) (v : Word) : (s.setDe v).pc = s.pc := rfl
@[simp] theorem State.setDe_ime (s : State) (v : Word) : (s.setDe v).ime = s.ime := rfl
@[simp] theorem State.setDe_fault (s : State) (v : Word) : (s.setDe v).fault = s.fault := rfl
@[simp] theorem State.setDe_run (s : State) (v : Word) : (s.setDe v).run = s.run := rfl
@[simp] theorem State.setDe_lastDecoded (s : State) (v : Word) : (s.setDe v).lastDecoded = s.lastDecoded := rfl
@[simp] theorem State.setDe_vram (s : State) (v : Word) : (s.setDe v).vram = s.vram := rfl
@[simp] theorem State.setDe_wram0 (s : State) (v : Word) : (s.setDe v).wram0 = s.wram0 := rfl
@[simp] theorem State.setDe_wram1 (s : State) (v : Word) : (s.setDe v).wram1 = s.wram1 := rfl
@[simp] theorem State.setDe_oam (s : State) (v : Word) : (s.setDe v).oam = s.oam := rfl
@[simp] theorem State.setDe_io (s : State) (v : Word) : (s.setDe v).io = s.io := rfl
@[simp] theorem State.setDe_hram (s : State) (v : Word) : (s.setDe v).hram = s.hram := rfl
@[simp] theorem State.setDe_cart (s : State) (v : Word) : (s.setDe v).cart = s.cart := rfl
@[simp] theorem State.setDe_cfg (s : State) (v : Word) : (s.setDe v).cfg = s.cfg := rfl
@[simp] theorem State.setDe_array (s : State) (v : Word) (st : Store) : (s.setDe v).array st = s.array st := rfl
@[simp] theorem State.setDe_read8 (s : State) (v : Word) (p : Word) : (s.setDe v).read8 p = s.read8 p := rfl

@[simp] theorem State.setHl_a (s : State) (v : Word) : (s.setHl v).a = s.a := rfl
@[simp] theorem State.setHl_f (s : State) (v : Word) : (s.setHl v).f = s.f := rfl
@[simp] theorem State.setHl_b (s : State) (v : Word) : (s.setHl v).b = s.b := rfl
@[simp] theorem State.setHl_c (s : State) (v : Word) : (s.setHl v).c = s.c := rfl
@[simp] theorem State.setHl_d (s : State) (v : Word) : (s.setHl v).d = s.d := rfl
@[simp] theorem State.setHl_e (s : State) (v : Word) : (s.setHl v).e = s.e := rfl
@[simp] theorem State.setHl_sp (s : State) (v : Word) : (s.setHl v).sp = s.sp := rfl
@[simp] theorem State.setHl_pc (s : State) (v : Word) : (s.setHl v).pc = s.pc := rfl
@[simp] theorem State.setHl_ime (s : State) (v : Word) : (s.setHl v).ime = s.ime := rfl
@[simp] theorem State.setHl_fault (s : State) (v : Word) : (s.setHl v).fault = s.fault := rfl
@[simp] theorem State.setHl_run (s : State) (v : Word) : (s.setHl v).run = s.run := rfl
@[simp] theorem State.setHl_lastDecoded (s : State) (v : Word) : (s.setHl v).lastDecoded = s.lastDecoded := rfl
@[simp] theorem State.setHl_vram (s : State) (v : Word) : (s.setHl v).vram = s.vram := rfl
@[simp] theorem State.setHl_wram0 (s : State) (v : Word) : (s.setHl v).wram0 = s.wram0 := rfl
@[simp] theorem State.setHl_wram1 (s : State) (v : Word) : (s.setHl v).wram1 = s.wram1 := rfl
@[simp] theorem State.setHl_oam (s : State) (v : Word) : (s.setHl v).oam = s.oam := rfl
@[simp] theorem State.setHl_io (s : State) (v : Word) : (s.setHl v).io = s.io := rfl
@[simp] theorem State.setHl_hram (s : State) (v : Word) : (s.setHl v).hram = s.hram := rfl
@[simp] theorem State.setHl_cart (s : State) (v : Word) : (s.setHl v).cart = s.cart := rfl
@[simp] theorem State.setHl_cfg (s : State) (v : Word) : (s.setHl v).cfg = s.cfg := rfl
@[simp] theorem State.setHl_array (s : State) (v : Word) (st : Store) : (s.setHl v).array st = s.array st := rfl
@[simp] theorem State.setHl_read8 (s : State) (v : Word) (p : Word) : (s.setHl v).read8 p = s.read8 p := rfl

@[simp] theorem State.setAf_b (s : State) (v : Word) : (s.setAf v).b = s.b := rfl
@[simp] theorem State.setAf_c (s : State) (v : Word) : (s.setAf v).c = s.c := rfl
@[simp] theorem State.setAf_d (s : State) (v : Word) : (s.setAf v).d = s.d := rfl
@[simp] theorem State.setAf_e (s : State) (v : Word) : (s.setAf v).e = s.e := rfl
@[simp] theorem State.setAf_h (s : State) (v : Word) : (s.setAf v).h = s.h := rfl
@[simp] theorem State.setAf_l (s : State) (v : Word) : (s.setAf v).l = s.l := rfl
@[simp] theorem State.setAf_sp (s : State) (v : Word) : (s.setAf v).sp = s.sp := rfl
@[simp] theorem State.setAf_pc (s : State) (v : Word) : (s.setAf v).pc = s.pc := rfl
@[simp] theorem State.setAf_ime (s : State) (v : Word) : (s.setAf v).ime = s.ime := rfl
@[simp] theorem State.setAf_fault (s : State) (v : Word) : (s.setAf v).fault = s.fault := rfl
@[simp] theorem State.setAf_run (s : State) (v : Word) : (s.setAf v).run = s.run := rfl
@[simp] theorem State.setAf_lastDecoded (s : State) (v : Word) : (s.setAf v).lastDecoded = s.lastDecoded := rfl
@[simp] theorem State.setAf_vram (s : State) (v : Word) : (s.setAf v).vram = s.vram := rfl
@[simp] theorem State.setAf_wram0 (s : State) (v : Word) : (s.setAf v).wram0 = s.wram0 := rfl
@[simp] theorem State.setAf_wram1 (s : State) (v : Word) : (s.setAf v).wram1 = s.wram1 := rfl
@[simp] theorem State.setAf_oam (s : State) (v : Word) : (s.setAf v).oam = s.oam := rfl
@[simp] theorem State.setAf_io (s : State) (v : Word) : (s.setAf v).io = s.io := rfl
@[simp] theorem State.setAf_hram (s : State) (v : Word) : (s.setAf v).hram = s.hram := rfl
@[simp] theorem State.setAf_cart (s : State) (v : Word) : (s.setAf v).cart = s.cart := rfl
@[simp] theorem State.setAf_cfg (s : State) (v : Word) : (s.setAf v).cfg = s.cfg := rfl
@[simp] theorem State.setAf_array (s : State) (v : Word) (st : Store) : (s.setAf v).array st = s.array st := rfl
@[simp] theorem State.setAf_read8 (s : State) (v : Word) (p : Word) : (s.setAf v).read8 p = s.read8 p := rfl

@[simp] theorem State.raise_a (s : State) (x : Fault) : (s.raise x).a = s.a := rfl
@[simp] theorem State.raise_f (s : State) (x : Fault) : (s.raise x).f = s.f := rfl
@[simp] theorem State.raise_b (s : State) (x : Fault) : (s.raise x).b = s.b := rfl
@[simp] theorem State.raise_c (s : State) (x : Fault) : (s.raise x).c = s.c := rfl
@[simp] theorem State.raise_d (s : State) (x : Fault) : (s.raise x).d = s.d := rfl
@[simp] theorem State.raise_e (s : State) (x : Fault) : (s.raise x).e = s.e := rfl
@[simp] theorem State.raise_h (s : State) (x : Fault) : (s.raise x).h = s.h := rfl
@[simp] theorem State.raise_l (s : State) (x : Fault) : (s.raise x).l = s.l := rfl
@[simp] theorem State.raise_sp (s : State) (x : Fault) : (s.raise x).sp = s.sp := rfl
@[simp] theorem State.raise_pc (s : State) (x : Fault) : (s.raise x).pc = s.pc := rfl
@[simp] theorem State.raise_ime (s : State) (x : Fault) : (s.raise x).ime = s.ime := rfl
@[simp] theorem State.raise_run (s : State) (x : Fault) : (s.raise x).run = s.run := rfl
@[simp] theorem State.raise_lastDecoded (s : State) (x : Fault) : (s.raise x).lastDecoded = s.lastDecoded := rfl
@[simp] theorem State.raise_vram (s : State) (x : Fault) : (s.raise x).vram = s.vram := rfl
@[simp] theorem State.raise_wram0 (s : State) (x : Fault) : (s.raise x).wram0 = s.wram0 := rfl
@[simp] theorem State.raise_wram1 (s : State) (x : Fault) : (s.raise x).wram1 = s.wram1 := rfl
@[simp] theorem State.raise_oam (s : State) (x : Fault) : (s.raise x).oam = s.oam := rfl
@[simp] theorem State.raise_io (s : State) (x : Fault) : (s.raise x).io = s.io := rfl
@[simp] theorem State.raise_hram (s : State) (x : Fault) : (s.raise x).hram = s.hram := rfl
@[simp] theorem State.raise_cart (s : State) (x : Fault) : (s.raise x).cart = s.cart := rfl
@[simp] theorem State.raise_cfg (s : State) (x : Fault) : (s.raise x).cfg = s.cfg := rfl
@[simp] theorem State.raise_array (s : State) (x : Fault) (st : Store) : (s.raise x).array st = s.array st := rfl
@[simp] theorem State.raise_read8 (s : State) (x : Fault) (p : Word) : (s.raise x).read8 p = s.read8 p := rfl

@[simp] theorem State.start_a (s : State) (x : Descriptor) : (s.start x).a = s.a := rfl
@[simp] theorem State.start_f (s : State) (x : Descriptor) : (s.start x).f = s.f := rfl
@[simp] theorem State.start_b (s : State) (x : Descriptor) : (s.start x).b = s.b := rfl
@[simp] theorem State.start_c (s : State) (x : Descriptor) : (s.start x).c = s.c := rfl
@[simp] theorem State.start_d (s : State) (x : Descriptor) : (s.start x).d = s.d := rfl
@[simp] theorem State.start_e (s : State) (x : Descriptor) : (s.start x).e = s.e := rfl
@[simp] theorem State.start_h (s : State) (x : Descriptor) : (s.start x).h = s.h := rfl
@[simp] theorem State.start_l (s : State) (x : Descriptor) : (s.start x).l = s.l := rfl
@[simp] theorem State.start_sp (s : State) (x : Descriptor) : (s.start x).sp = s.sp := rfl
@[simp] theorem State.start_ime (s : State) (x : Descriptor) : (s.start x).ime = s.ime := rfl
@[simp] theorem State.start_fault (s : State) (x : Descriptor) : (s.start x).fault = s.fault := rfl
@[simp] theorem State.start_run (s : State) (x : Descriptor) : (s.start x).run = s.run := rfl
@[simp] theorem State.start_vram (s : State) (x : Descriptor) : (s.start x).vram = s.vram := rfl
@[simp] theorem State.start_wram0 (s : State) (x : Descriptor) : (s.start x).wram0 = s.wram0 := rfl
@[simp] theorem State.start_wram1 (s : State) (x : Descriptor) : (s.start x).wram1 = s.wram1 := rfl
@[simp] theorem State.start_oam (s : State) (x : Descriptor) : (s.start x).oam = s.oam := rfl
@[simp] theorem State.start_io (s : State) (x : Descriptor) : (s.start x).io = s.io := rfl
@[simp] theorem State.start_hram (s : State) (x : Descriptor) : (s.start x).hram = s.hram := rfl
@[simp] theorem State.start_cart (s : State) (x : Descriptor) : (s.start x).cart = s.cart := rfl
@[simp] theorem State.start_cfg (s : State) (x : Descriptor) : (s.start x).cfg = s.cfg := rfl
@[simp] theorem State.start_array (s : State) (x : Descriptor) (st : Store) : (s.start x).array st = s.array st := rfl
@[simp] theorem State.start_read8 (s : State) (x : Descriptor) (p : Word) : (s.start x).read8 p = s.read8 p := rfl

@[simp] theorem State.jump_a (s : State) (t : Word) : (s.jump t).a = s.a := rfl
@[simp] theorem State.jump_f (s : State) (t : Word) : (s.jump t).f = s.f := rfl
@[simp] theorem State.jump_b (s : State) (t : Word) : (s.jump t).b = s.b := rfl
@[simp] theorem State.jump_c (s : State) (t : Word) : (s.jump t).c = s.c := rfl
@[simp] theorem State.jump_d (s : State) (t : Word) : (s.jump t).d = s.d := rfl
@[simp] theorem State.jump_e (s : State) (t : Word) : (s.jump t).e = s.e := rfl
@[simp] theorem State.jump_h (s : State) (t : Word) : (s.jump t).h = s.h := rfl
@[simp] theorem State.jump_l (s : State) (t : Word) : (s.jump t).l = s.l := rfl
@[simp] theorem State.jump_sp (s : State) (t : Word) : (s.jump t).sp = s.sp := rfl
@[simp] theorem State.jump_ime (s : State) (t : Word) : (s.jump t).ime = s.ime := rfl
@[simp] theorem State.jump_fault (s : State) (t : Word) : (s.jump t).fault = s.fault := rfl
@[simp] theorem State.jump_run (s : State) (t : Word) : (s.jump t).run = s.run := rfl
@[simp] theorem State.jump_lastDecoded (s : State) (t : Word) : (s.jump t).lastDecoded = s.lastDecoded := rfl
@[simp] theorem State.jump_vram (s : State) (t : Word) : (s.jump t).vram = s.vram := rfl
@[simp] theorem State.jump_wram0 (s : State) (t : Word) : (s.jump t).wram0 = s.wram0 := rfl
@[simp] theorem State.jump_wram1 (s : State) (t : Word) : (s.jump t).wram1 = s.wram1 := rfl
@[simp] theorem State.jump_oam (s : State) (t : Word) : (s.jump t).oam = s.oam := rfl
@[simp] theorem State.jump_io (s : State) (t : Word) : (s.jump t).io = s.io := rfl
@[simp] theorem State.jump_hram (s : State) (t : Word) : (s.jump t).hram = s.hram := rfl
@[simp] theorem State.jump_cart (s : State) (t : Word) : (s.jump t).cart = s.cart := rfl
@[simp] theorem State.jump_cfg (s : State) (t : Word) : (s.jump t).cfg = s.cfg := rfl
@[simp] theorem State.jump_array (s : State) (t : Word) (st : Store) : (s.jump t).array st = s.array st := rfl
@[simp] theorem State.jump_read8 (s : State) (t : Word) (p : Word) : (s.jump t).read8 p = s.read8 p := rfl

@[simp] theorem State.drop16_a (s : State) : (s.drop16).a = s.a := rfl
@[simp] theorem State.drop16_f (s : State) : (s.drop16).f = s.f := rfl
@[simp] theorem State.drop16_b (s : State) : (s.drop16).b = s.b := rfl
@[simp] theorem State.drop16_c (s : State) : (s.drop16).c = s.c := rfl
@[simp] theorem State.drop16_d (s : State) : (s.drop16).d = s.d := rfl
@[simp] theorem State.drop16_e (s : State) : (s.drop16).e = s.e := rfl
@[simp] theorem State.drop16_h (s : State) : (s.drop16).h = s.h := rfl
@[simp] theorem State.drop16_l (s : State) : (s.drop16).l = s.l := rfl
@[simp] theorem State.drop16_pc (s : State) : (s.drop16).pc = s.pc := rfl
@[simp] theorem State.drop16_ime (s : State) : (s.drop16).ime = s.ime := rfl
@[simp] theorem State.drop16_fault (s : State) : (s.drop16).fault = s.fault := rfl
@[simp] theorem State.drop16_run (s : State) : (s.drop16).run = s.run := rfl
@[simp] theorem State.drop16_lastDecoded (s : State) : (s.drop16).lastDecoded = s.lastDecoded := rfl
@[simp] theorem State.drop16_vram (s : State) : (s.drop16).vram = s.vram := rfl
@[simp] theorem State.drop16_wram0 (s : State) : (s.drop16).wram0 = s.wram0 := rfl
@[simp] theorem State.drop16_wram1 (s : State) : (s.drop16).wram1 = s.wram1 := rfl
@[simp] theorem State.drop16_oam (s : State) : (s.drop16).oam = s.oam := rfl
@[simp] theorem State.drop16_io (s : State) : (s.drop16).io = s.io := rfl
@[simp] theorem State.drop16_hram (s : State) : (s.drop16).hram = s.hram := rfl
@[simp] theorem State.drop16_cart (s : State) : (s.drop16).cart = s.cart := rfl
@[simp] theorem State.drop16_cfg (s : State) : (s.drop16).cfg = s.cfg := rfl
@[simp] theorem State.drop16_array (s : State) (st : Store) : (s.drop16).array st = s.array st := rfl
@[simp] theorem State.drop16_read8 (s : State) (p : Word) : (s.drop16).read8 p = s.read8 p := rfl

@[simp] theorem State.setIme_a (s : State) (v : Bool) : (s.setIme v).a = s.a := rfl
@[simp] theorem State.setIme_f (s : State) (v : Bool) : (s.setIme v).f = s.f := rfl
@[simp] theorem State.setIme_b (s : State) (v : Bool) : (s.setIme v).b = s.b := rfl
@[simp] theorem State.setIme_c (s : State) (v : Bool) : (s.setIme v).c = s.c := rfl
@[simp] theorem State.setIme_d (s : State) (v : Bool) : (s.setIme v).d = s.d := rfl
@[simp] theorem State.setIme_e (s : State) (v : Bool) : (s.setIme v).e = s.e := rfl
@[simp] theorem State.setIme_h (s : State) (v : Bool) : (s.setIme v).h = s.h := rfl
@[simp] theorem State.setIme_l (s : State) (v : Bool) : (s.setIme v).l = s.l := rfl
@[simp] theorem State.setIme_sp (s : State) (v : Bool) : (s.setIme v).sp = s.sp := rfl
@[simp] theorem State.setIme_pc (s : State) (v : Bool) : (s.setIme v).pc = s.pc := rfl
@[simp] theorem State.setIme_fault (s : State) (v : Bool) : (s.setIme v).fault = s.fault := rfl
@[simp] theorem State.setIme_run (s : State) (v : Bool) : (s.setIme v).run = s.run := rfl
@[simp] theorem State.setIme_lastDecoded (s : State) (v : Bool) : (s.setIme v).lastDecoded = s.lastDecoded := rfl
@[simp] theorem State.setIme_vram (s : State) (v : Bool) : (s.setIme v).vram = s.vram := rfl
@[simp] theorem State.setIme_wram0 (s : State) (v : Bool) : (s.setIme v).wram0 = s.wram0 := rfl
@[simp] theorem State.setIme_wram1 (s : State) (v : Bool) : (s.setIme v).wram1 = s.wram1 := rfl
@[simp] theorem State.setIme_oam (s : State) (v : Bool) : (s.setIme v).oam = s.oam := rfl
@[simp] theorem State.setIme_io (s : State) (v : Bool) : (s.setIme v).io = s.io := rfl
@[simp] theorem State.setIme_hram (s : State) (v : Bool) : (s.setIme v).hram = s.hram := rfl
@[simp] theorem State.setIme_cart (s : State) (v : Bool) : (s.setIme v).cart = s.cart := rfl
@[simp] theorem State.setIme_cfg (s : State) (v : Bool) : (s.setIme v).cfg = s.cfg := rfl
@[simp] theorem State.setIme_array (s : State) (v : Bool) (st : Store) : (s.setIme v).array st = s.array st := rfl
@[simp] theorem State.setIme_read8 (s : State) (v : Bool) (p : Word) : (s.setIme v).read8 p = s.read8 p := rfl

@[simp] theorem State.setRun_a (s : State) (r : RunState) : (s.setRun r).a = s.a := rfl
@[simp] theorem State.setRun_f (s : State) (r : RunState) : (s.setRun r).f = s.f := rfl
@[simp] theorem State.setRun_b (s : State) (r : RunState) : (s.setRun r).b = s.b := rfl
@[simp] theorem State.setRun_c (s : State) (r : RunState) : (s.setRun r).c = s.c := rfl
@[simp] theorem State.setRun_d (s : State) (r : RunState) : (s.setRun r).d = s.d := rfl
@[simp] theorem State.setRun_e (s : State) (r : RunState) : (s.setRun r).e = s.e := rfl
@[simp] theorem State.setRun_h (s : State) (r : RunState) : (s.setRun r).h = s.h := rfl
@[simp] theorem State.setRun_l (s : State) (r : RunState) : (s.setRun r).l = s.l := rfl
@[simp] theorem State.setRun_sp (s : State) (r : RunState) : (s.setRun r).sp = s.sp := rfl
@[simp] theorem State.setRun_pc (s : State) (r : RunState) : (s.setRun r).pc = s.pc := rfl
@[simp] theorem State.setRun_ime (s : State) (r : RunState) : (s.setRun r).ime = s.ime := rfl
@[simp] theorem State.setRun_fault (s : State) (r : RunState) : (s.setRun r).fault = s.fault := rfl
@[simp] theorem State.setRun_lastDecoded (s : State) (r : RunState) : (s.setRun r).lastDecoded = s.lastDecoded := rfl
@[simp] theorem State.setRun_vram (s : State) (r : RunState) : (s.setRun r).vram = s.vram := rfl
@[simp] theorem State.setRun_wram0 (s : State) (r : RunState) : (s.setRun r).wram0 = s.wram0 := rfl
@[simp] theorem State.setRun_wram1 (s : State) (r : RunState) : (s.setRun r).wram1 = s.wram1 := rfl
@[simp] theorem State.setRun_oam (s : State) (r : RunState) : (s.setRun r).oam = s.oam := rfl
@[simp] theorem State.setRun_io (s : State) (r : RunState) : (s.setRun r).io = s.io := rfl
@[simp] theorem State.setRun_hram (s : State) (r : RunState) : (s.setRun r).hram = s.hram := rfl
@[simp] theorem State.setRun_cart (s : State) (r : RunState) : (s.setRun r).cart = s.cart := rfl
@[simp] theorem State.setRun_cfg (s : State) (r : RunState) : (s.setRun r).cfg = s.cfg := rfl
@[simp] theorem State.setRun_array (s : State) (r : RunState) (st : Store) : (s.setRun r).array st = s.array st := rfl
@[simp] theorem State.setRun_read8 (s : State) (r : RunState) (p : Word) : (s.setRun r).read8 p = s.read8 p := rfl

@[simp] theorem State.setArray_array_same (s : State) (st : Store) (m : Memory) : (s.setArray st m).array st = m := by cases st <;> rfl
theorem State.setArray_array_ne (s : State) {st st' : Store} (m : Memory) (h : st' ≠ st) : (s.setArray st m).array st' = s.array st' := by
  cases st <;> cases st' <;> first | rfl | exact absurd rfl h
@[simp] theorem State.poke_array_same (s : State) (st : Store) (i : Nat) (v : Byte) : (s.poke st i v).array st = (s.array st).write i v :=
  State.setArray_array_same s st _
theorem State.poke_array_ne (s : State) {st st' : Store} (i : Nat) (v : Byte) (h : st' ≠ st) : (s.poke st i v).array st' = s.array st' :=
  State.setArray_array_ne s _ h

@[simp] theorem State.array_vram (s : State) : s.array .vram = s.vram := rfl
@[simp] theorem State.array_wram0 (s : State) : s.array .wram0 = s.wram0 := rfl
@[simp] theorem State.array_wram1 (s : State) : s.array .wram1 = s.wram1 := rfl
@[simp] theorem State.array_oam (s : State) : s.array .oam = s.oam := rfl
@[simp] theorem State.array_io (s : State) : s.array .io = s.io := rfl
@[simp] theorem State.array_hram (s : State) : s.array .hram = s.hram := rfl

@[simp] theorem State.raise_fault (s : State) (x : Fault) : (s.raise x).fault = some x := rfl
@[simp] theorem State.start_lastDecoded (s : State) (x : Descriptor) : (s.start x).lastDecoded = some x := rfl
@[simp] theorem State.start_pc (s : State) (x : Descriptor) : (s.start x).pc = s.pc + BitVec.ofNat 16 x.length := rfl
@[simp] theorem State.jump_pc (s : State) (t : Word) : (s.jump t).pc = t := rfl
@[simp] theorem State.drop16_sp (s : State) : s.drop16.sp = s.sp + 2 := rfl
@[simp] theorem State.setIme_ime (s : State) (v : Bool) : (s.setIme v).ime = v := rfl
@[simp] theorem State.setRun_run (s : State) (r : RunState) : (s.setRun r).run = r := rfl
@[simp] theorem State.setF_f (s : State) (v : Byte) : (s.setF v).f = v &&& 0xF0 := rfl
@[simp] theorem State.setBc_b (s : State) (v : Word) : (s.setBc v).b = hiByte v := rfl
@[simp] theorem State.setBc_c (s : State) (v : Word) : (s.setBc v).c = loByte v := rfl
@[simp] theorem State.setDe_d (s : State) (v : Word) : (s.setDe v).d = hiByte v := rfl
@[simp] theorem State.setDe_e (s : State) (v : Word) : (s.setDe v).e = loByte v := rfl
@[simp] theorem State.setHl_h (s : State) (v : Word) : (s.setHl v).h = hiByte v := rfl
@[simp] theorem State.setHl_l (s : State) (v : Word) : (s.setHl v).l = loByte v := rfl
@[simp] theorem State.setAf_a (s : State) (v : Word) : (s.setAf v).a = hiByte v := rfl
@[simp] theorem State.setAf_f (s : State) (v : Word) : (s.setAf v).f = loByte v &&& 0xF0 := rfl

/-- A word made of its own bytes is that word (R24, R25). -/
@[simp] theorem wordOf_bytes (w : Word) : wordOf (loByte w) (hiByte w) = w := by
  apply BitVec.eq_of_getLsbD_eq
  intro i hi
  simp only [wordOf, loByte, hiByte, BitVec.getLsbD_append, BitVec.getLsbD_extractLsb']
  split
  · simp [*]
  · simp [show i - 8 < 8 by omega, show 8 + (i - 8) = i by omega]

@[simp] theorem loByte_wordOf (lo hi : Byte) : loByte (wordOf lo hi) = lo := by
  apply BitVec.eq_of_getLsbD_eq
  intro i hi
  simp only [wordOf, loByte, BitVec.getLsbD_append, BitVec.getLsbD_extractLsb']
  simp [hi]

@[simp] theorem hiByte_wordOf (lo hi : Byte) : hiByte (wordOf lo hi) = hi := by
  apply BitVec.eq_of_getLsbD_eq
  intro i h
  simp only [wordOf, hiByte, BitVec.getLsbD_append, BitVec.getLsbD_extractLsb']
  simp [h]

@[simp] theorem State.setBc_bc (s : State) (v : Word) : (s.setBc v).bc = v := wordOf_bytes v
@[simp] theorem State.setDe_de (s : State) (v : Word) : (s.setDe v).de = v := wordOf_bytes v
@[simp] theorem State.setHl_hl (s : State) (v : Word) : (s.setHl v).hl = v := wordOf_bytes v

/-- The four flags of a packed byte, and its low nibble (R22). -/
theorem packFlags_bits (z n h c : Bool) :
    (packFlags z n h c).getLsbD 7 = z ∧ (packFlags z n h c).getLsbD 6 = n ∧ (packFlags z n h c).getLsbD 5 = h ∧
      (packFlags z n h c).getLsbD 4 = c ∧ packFlags z n h c &&& 0x0F = 0 := by
  revert z n h c; decide

@[simp] theorem State.setFlags_flagZ (s : State) (z n h c : Option Bool) : (s.setFlags z n h c).flagZ = z.getD s.flagZ :=
  (packFlags_bits _ _ _ _).1
@[simp] theorem State.setFlags_flagN (s : State) (z n h c : Option Bool) : (s.setFlags z n h c).flagN = n.getD s.flagN :=
  (packFlags_bits _ _ _ _).2.1
@[simp] theorem State.setFlags_flagH (s : State) (z n h c : Option Bool) : (s.setFlags z n h c).flagH = h.getD s.flagH :=
  (packFlags_bits _ _ _ _).2.2.1
@[simp] theorem State.setFlags_flagC (s : State) (z n h c : Option Bool) : (s.setFlags z n h c).flagC = c.getD s.flagC :=
  (packFlags_bits _ _ _ _).2.2.2.1

/-- Writing flags leaves the low nibble of F zero (R22). -/
theorem State.setFlags_clean (s : State) (z n h c : Option Bool) : (s.setFlags z n h c).f &&& 0x0F = 0 :=
  (packFlags_bits _ _ _ _).2.2.2.2

/-- Writing a whole byte to F leaves its low nibble zero (R22). -/
theorem State.setF_clean (s : State) (v : Byte) : (s.setF v).f &&& 0x0F = 0 := by
  rw [State.setF_f]; revert v; decide

end Sys2Proof.Machine
end

