-- ==== Sys2Proof/Laws/Bus.lean ====
section
/-! SUPPORT. The bus: where addresses lead, what a write does to every byte read afterwards, the DMA copy, and that no write touches a register. -/

namespace Sys2Proof.Machine

/-- An echo address folded once is not an echo (R65). -/
theorem unecho_not_echo (a : Word) : ¬ (0xE000 ≤ (unecho a).toNat ∧ (unecho a).toNat ≤ 0xFDFF) := by
  unfold unecho
  split
  · rw [BitVec.toNat_sub_of_le (by simp [BitVec.le_def]; omega)]
    simp; omega
  · assumption

@[simp] theorem unecho_unecho (a : Word) : unecho (unecho a) = unecho a := by
  exact if_neg (unecho_not_echo a)

/-- An access through the echo leads where the folded address leads (R65). -/
@[simp] theorem locate_unecho (a : Word) : locate (unecho a) = locate a := by
  unfold locate; rw [unecho_unecho]

/-- The bus address of the first byte of an array (R61). -/
def Store.base (st : Store) : Nat :=
  match st with
  | .vram => 0x8000
  | .wram0 => 0xC000
  | .wram1 => 0xD000
  | .oam => 0xFE00
  | .io => 0xFF00
  | .hram => 0xFF80

/-- An address that leads to an array byte is the array's base plus the index, which is within the array's size (R61). -/
theorem regionOf_array {n : Nat} {st : Store} {i : Nat} (hn : n < 0x10000) (he : ¬ (0xE000 ≤ n ∧ n ≤ 0xFDFF))
    (h : regionOf n = .array st i) : n = st.base + i ∧ i < st.size := by
  unfold regionOf at h
  repeat' split at h
  all_goals simp only [Region.array.injEq, reduceCtorEq] at h
  all_goals
    obtain ⟨rfl, rfl⟩ := h
    simp only [Store.base, Store.size, Config.vramSize, Config.wramBankSize, Config.oamSize, Config.ioSize, Config.hramSize]
    omega

/-- An address that leads to an array byte, folded, is the array's base plus the index. -/
theorem locate_array {a : Word} {st : Store} {i : Nat} (h : locate a = .array st i) : (unecho a).toNat = st.base + i ∧ i < st.size :=
  regionOf_array (unecho a).isLt (unecho_not_echo a) h

theorem locate_index_lt {a : Word} {st : Store} {i : Nat} (h : locate a = .array st i) : i < st.size := (locate_array h).2

/-- The same array byte means the same folded address (R61, R65). -/
theorem sameByte_of_locate {a b : Word} {st : Store} {i : Nat} (ha : locate a = .array st i) (hb : locate b = .array st i) : sameByte a b :=
  BitVec.eq_of_toNat_eq ((locate_array ha).1.trans (locate_array hb).1.symm)

/-- The same folded address leads to the same place. -/
theorem locate_of_sameByte {a b : Word} (h : sameByte a b) : locate a = locate b := by
  unfold locate; rw [show unecho a = unecho b from h]

/-- A byte stored in an array in canonical form, seen through every address. -/
theorem State.read8_poke (s : State) (st : Store) (i : Nat) (v : Byte) (p : Word) (h : (s.array st).wf = true) :
    (s.poke st i v).read8 p = if locate p = .array st i then v else s.read8 p := by
  unfold State.read8
  cases hp : locate p with
  | rom => simp
  | extRam => simp
  | unusable => simp
  | array st' j =>
    by_cases hst : st' = st
    · subst hst
      simp only [State.poke_array_same, Memory.read_write_wf h]
      by_cases hij : i = j
      · simp [hij]
      · simp [hij, Ne.symm hij]
    · simp [State.poke_array_ne s i v hst, hst]

@[simp] theorem dmaByte_a (v : Byte) (s : State) (k : Nat) : (dmaByte v s k).a = s.a := by simp [dmaByte]
@[simp] theorem dmaByte_f (v : Byte) (s : State) (k : Nat) : (dmaByte v s k).f = s.f := by simp [dmaByte]
@[simp] theorem dmaByte_b (v : Byte) (s : State) (k : Nat) : (dmaByte v s k).b = s.b := by simp [dmaByte]
@[simp] theorem dmaByte_c (v : Byte) (s : State) (k : Nat) : (dmaByte v s k).c = s.c := by simp [dmaByte]
@[simp] theorem dmaByte_d (v : Byte) (s : State) (k : Nat) : (dmaByte v s k).d = s.d := by simp [dmaByte]
@[simp] theorem dmaByte_e (v : Byte) (s : State) (k : Nat) : (dmaByte v s k).e = s.e := by simp [dmaByte]
@[simp] theorem dmaByte_h (v : Byte) (s : State) (k : Nat) : (dmaByte v s k).h = s.h := by simp [dmaByte]
@[simp] theorem dmaByte_l (v : Byte) (s : State) (k : Nat) : (dmaByte v s k).l = s.l := by simp [dmaByte]
@[simp] theorem dmaByte_sp (v : Byte) (s : State) (k : Nat) : (dmaByte v s k).sp = s.sp := by simp [dmaByte]
@[simp] theorem dmaByte_pc (v : Byte) (s : State) (k : Nat) : (dmaByte v s k).pc = s.pc := by simp [dmaByte]
@[simp] theorem dmaByte_ime (v : Byte) (s : State) (k : Nat) : (dmaByte v s k).ime = s.ime := by simp [dmaByte]
@[simp] theorem dmaByte_fault (v : Byte) (s : State) (k : Nat) : (dmaByte v s k).fault = s.fault := by simp [dmaByte]
@[simp] theorem dmaByte_run (v : Byte) (s : State) (k : Nat) : (dmaByte v s k).run = s.run := by simp [dmaByte]
@[simp] theorem dmaByte_lastDecoded (v : Byte) (s : State) (k : Nat) : (dmaByte v s k).lastDecoded = s.lastDecoded := by simp [dmaByte]
@[simp] theorem dmaByte_cfg (v : Byte) (s : State) (k : Nat) : (dmaByte v s k).cfg = s.cfg := by simp [dmaByte]
@[simp] theorem dmaByte_cart (v : Byte) (s : State) (k : Nat) : (dmaByte v s k).cart = s.cart := by simp [dmaByte]

/-- A fact that every byte of a DMA copy keeps is kept by the copy. -/
theorem dmaCopy_keeps {P : State → Prop} (v : Byte) (step : ∀ s k, k < Config.oamSize → P s → P (dmaByte v s k)) (s : State) (h : P s) :
    P (dmaCopy v s) := by
  have go : ∀ (ks : List Nat), (∀ k ∈ ks, k < Config.oamSize) → ∀ s, P s → P (ks.foldl (dmaByte v) s) := by
    intro ks
    induction ks with
    | nil => intro _ s hs; exact hs
    | cons k ks ih =>
      intro hk s hs
      exact ih (fun j hj => hk j (List.mem_cons_of_mem k hj)) _ (step s k (hk k List.mem_cons_self) hs)
  exact go _ (fun k hk => List.mem_range.mp hk) s h

@[simp] theorem dmaCopy_a (v : Byte) (s : State) : (dmaCopy v s).a = s.a :=
  dmaCopy_keeps (P := fun t => t.a = s.a) v (fun t _ _ hs => by rw [hs.symm]; simp [dmaByte]) s rfl
@[simp] theorem dmaCopy_f (v : Byte) (s : State) : (dmaCopy v s).f = s.f :=
  dmaCopy_keeps (P := fun t => t.f = s.f) v (fun t _ _ hs => by rw [hs.symm]; simp [dmaByte]) s rfl
@[simp] theorem dmaCopy_b (v : Byte) (s : State) : (dmaCopy v s).b = s.b :=
  dmaCopy_keeps (P := fun t => t.b = s.b) v (fun t _ _ hs => by rw [hs.symm]; simp [dmaByte]) s rfl
@[simp] theorem dmaCopy_c (v : Byte) (s : State) : (dmaCopy v s).c = s.c :=
  dmaCopy_keeps (P := fun t => t.c = s.c) v (fun t _ _ hs => by rw [hs.symm]; simp [dmaByte]) s rfl
@[simp] theorem dmaCopy_d (v : Byte) (s : State) : (dmaCopy v s).d = s.d :=
  dmaCopy_keeps (P := fun t => t.d = s.d) v (fun t _ _ hs => by rw [hs.symm]; simp [dmaByte]) s rfl
@[simp] theorem dmaCopy_e (v : Byte) (s : State) : (dmaCopy v s).e = s.e :=
  dmaCopy_keeps (P := fun t => t.e = s.e) v (fun t _ _ hs => by rw [hs.symm]; simp [dmaByte]) s rfl
@[simp] theorem dmaCopy_h (v : Byte) (s : State) : (dmaCopy v s).h = s.h :=
  dmaCopy_keeps (P := fun t => t.h = s.h) v (fun t _ _ hs => by rw [hs.symm]; simp [dmaByte]) s rfl
@[simp] theorem dmaCopy_l (v : Byte) (s : State) : (dmaCopy v s).l = s.l :=
  dmaCopy_keeps (P := fun t => t.l = s.l) v (fun t _ _ hs => by rw [hs.symm]; simp [dmaByte]) s rfl
@[simp] theorem dmaCopy_sp (v : Byte) (s : State) : (dmaCopy v s).sp = s.sp :=
  dmaCopy_keeps (P := fun t => t.sp = s.sp) v (fun t _ _ hs => by rw [hs.symm]; simp [dmaByte]) s rfl
@[simp] theorem dmaCopy_pc (v : Byte) (s : State) : (dmaCopy v s).pc = s.pc :=
  dmaCopy_keeps (P := fun t => t.pc = s.pc) v (fun t _ _ hs => by rw [hs.symm]; simp [dmaByte]) s rfl
@[simp] theorem dmaCopy_ime (v : Byte) (s : State) : (dmaCopy v s).ime = s.ime :=
  dmaCopy_keeps (P := fun t => t.ime = s.ime) v (fun t _ _ hs => by rw [hs.symm]; simp [dmaByte]) s rfl
@[simp] theorem dmaCopy_fault (v : Byte) (s : State) : (dmaCopy v s).fault = s.fault :=
  dmaCopy_keeps (P := fun t => t.fault = s.fault) v (fun t _ _ hs => by rw [hs.symm]; simp [dmaByte]) s rfl
@[simp] theorem dmaCopy_run (v : Byte) (s : State) : (dmaCopy v s).run = s.run :=
  dmaCopy_keeps (P := fun t => t.run = s.run) v (fun t _ _ hs => by rw [hs.symm]; simp [dmaByte]) s rfl
@[simp] theorem dmaCopy_lastDecoded (v : Byte) (s : State) : (dmaCopy v s).lastDecoded = s.lastDecoded :=
  dmaCopy_keeps (P := fun t => t.lastDecoded = s.lastDecoded) v (fun t _ _ hs => by rw [hs.symm]; simp [dmaByte]) s rfl
@[simp] theorem dmaCopy_cfg (v : Byte) (s : State) : (dmaCopy v s).cfg = s.cfg :=
  dmaCopy_keeps (P := fun t => t.cfg = s.cfg) v (fun t _ _ hs => by rw [hs.symm]; simp [dmaByte]) s rfl
@[simp] theorem dmaCopy_cart (v : Byte) (s : State) : (dmaCopy v s).cart = s.cart :=
  dmaCopy_keeps (P := fun t => t.cart = s.cart) v (fun t _ _ hs => by rw [hs.symm]; simp [dmaByte]) s rfl
@[simp] theorem dmaCopy_vram (v : Byte) (s : State) : (dmaCopy v s).vram = s.vram :=
  dmaCopy_keeps (P := fun t => t.vram = s.vram) v (fun t _ _ hs => by rw [hs.symm]; exact State.poke_array_ne t (st := .oam) (st' := .vram) _ _ (by decide)) s rfl
@[simp] theorem dmaCopy_wram0 (v : Byte) (s : State) : (dmaCopy v s).wram0 = s.wram0 :=
  dmaCopy_keeps (P := fun t => t.wram0 = s.wram0) v (fun t _ _ hs => by rw [hs.symm]; exact State.poke_array_ne t (st := .oam) (st' := .wram0) _ _ (by decide)) s rfl
@[simp] theorem dmaCopy_wram1 (v : Byte) (s : State) : (dmaCopy v s).wram1 = s.wram1 :=
  dmaCopy_keeps (P := fun t => t.wram1 = s.wram1) v (fun t _ _ hs => by rw [hs.symm]; exact State.poke_array_ne t (st := .oam) (st' := .wram1) _ _ (by decide)) s rfl
@[simp] theorem dmaCopy_io (v : Byte) (s : State) : (dmaCopy v s).io = s.io :=
  dmaCopy_keeps (P := fun t => t.io = s.io) v (fun t _ _ hs => by rw [hs.symm]; exact State.poke_array_ne t (st := .oam) (st' := .io) _ _ (by decide)) s rfl
@[simp] theorem dmaCopy_hram (v : Byte) (s : State) : (dmaCopy v s).hram = s.hram :=
  dmaCopy_keeps (P := fun t => t.hram = s.hram) v (fun t _ _ hs => by rw [hs.symm]; exact State.poke_array_ne t (st := .oam) (st' := .hram) _ _ (by decide)) s rfl

/-- The source of byte `k` of a DMA copy is an OAM byte only where it is byte `k` itself (R75). -/
theorem locate_dmaSource {v : Byte} {k i : Nat} (hk : k < 160) (h : locate (dmaSource v k) = .array .oam i) : i = k := by
  have hn : (dmaSource v k).toNat = v.toNat * 256 + k := by
    unfold dmaSource wordOf
    rw [BitVec.toNat_add, BitVec.toNat_append, BitVec.toNat_ofNat]
    have := v.isLt
    simp [Nat.shiftLeft_eq]
    omega
  have hv := v.isLt
  have hb := (locate_array h).1
  have hi := (locate_array h).2
  simp only [Store.base] at hb
  simp only [Store.size, Config.oamSize] at hi
  unfold unecho at hb
  split at hb
  · rw [BitVec.toNat_sub_of_le (by simp [BitVec.le_def]; omega), hn] at hb
    have h2 : (0x2000 : Word).toNat = 0x2000 := rfl
    omega
  · omega

/-- A read of the copy's source does not see the bytes of OAM already copied. -/
theorem read8_dmaByte_source (v : Byte) (s : State) (j k : Nat) (hj : j < k) (hk : k < 160) (hw : s.oam.wf = true) :
    (dmaByte v s j).read8 (dmaSource v k) = s.read8 (dmaSource v k) := by
  unfold dmaByte
  rw [State.read8_poke s .oam j _ _ hw, if_neg]
  intro h
  have := locate_dmaSource hk h
  omega

/-- The DMA copy (R75): byte `k` of OAM becomes what the bus read at the source before the copy, for `k` below 160. -/
theorem dmaCopy_oam (v : Byte) (s : State) (hw : s.oam.wf = true) :
    (dmaCopy v s).oam.wf = true ∧ ∀ k, (dmaCopy v s).oam.read k = if k < 160 then s.read8 (dmaSource v k) else s.oam.read k := by
  have go : ∀ n, n ≤ 160 → ((List.range n).foldl (dmaByte v) s).oam.wf = true ∧
      (∀ k, n ≤ k → k < 160 → ((List.range n).foldl (dmaByte v) s).read8 (dmaSource v k) = s.read8 (dmaSource v k)) ∧
      ∀ k, ((List.range n).foldl (dmaByte v) s).oam.read k = if k < n then s.read8 (dmaSource v k) else s.oam.read k := by
    intro n
    induction n with
    | zero => intro _; exact ⟨hw, fun _ _ _ => rfl, fun k => by simp⟩
    | succ n ih =>
      intro hn
      obtain ⟨h1, h2, h3⟩ := ih (by omega)
      rw [List.range_succ, List.foldl_append]
      simp only [List.foldl_cons, List.foldl_nil]
      generalize (List.range n).foldl (dmaByte v) s = t at h1 h2 h3
      refine ⟨Memory.wf_write (m := t.oam) n _ h1, fun k hk hk' => ?_, fun k => ?_⟩
      · rw [read8_dmaByte_source v t n k (by omega) hk' h1]
        exact h2 k (by omega) hk'
      · rw [show (dmaByte v t n).oam = t.oam.write n (t.read8 (dmaSource v n)) from rfl, Memory.read_write_wf h1, h3, h2 n (by omega) (by omega)]
        by_cases hnk : n = k
        · subst hnk; simp
        · by_cases hkn : k < n
          · rw [if_neg hnk, if_pos hkn, if_pos (by omega)]
          · rw [if_neg hnk, if_neg hkn, if_neg (by omega)]
  have := go 160 (Nat.le_refl _)
  exact ⟨this.1, this.2.2⟩

@[simp] theorem ioWrite_a (i : Nat) (v : Byte) (s : State) : (ioWrite i v s).a = s.a := by
  unfold ioWrite; (repeat' split) <;> simp
@[simp] theorem arrayWrite_a (st : Store) (i : Nat) (v : Byte) (s : State) : (arrayWrite st i v s).a = s.a := by
  cases st <;> simp [arrayWrite]
@[simp] theorem ioWrite_f (i : Nat) (v : Byte) (s : State) : (ioWrite i v s).f = s.f := by
  unfold ioWrite; (repeat' split) <;> simp
@[simp] theorem arrayWrite_f (st : Store) (i : Nat) (v : Byte) (s : State) : (arrayWrite st i v s).f = s.f := by
  cases st <;> simp [arrayWrite]
@[simp] theorem ioWrite_b (i : Nat) (v : Byte) (s : State) : (ioWrite i v s).b = s.b := by
  unfold ioWrite; (repeat' split) <;> simp
@[simp] theorem arrayWrite_b (st : Store) (i : Nat) (v : Byte) (s : State) : (arrayWrite st i v s).b = s.b := by
  cases st <;> simp [arrayWrite]
@[simp] theorem ioWrite_c (i : Nat) (v : Byte) (s : State) : (ioWrite i v s).c = s.c := by
  unfold ioWrite; (repeat' split) <;> simp
@[simp] theorem arrayWrite_c (st : Store) (i : Nat) (v : Byte) (s : State) : (arrayWrite st i v s).c = s.c := by
  cases st <;> simp [arrayWrite]
@[simp] theorem ioWrite_d (i : Nat) (v : Byte) (s : State) : (ioWrite i v s).d = s.d := by
  unfold ioWrite; (repeat' split) <;> simp
@[simp] theorem arrayWrite_d (st : Store) (i : Nat) (v : Byte) (s : State) : (arrayWrite st i v s).d = s.d := by
  cases st <;> simp [arrayWrite]
@[simp] theorem ioWrite_e (i : Nat) (v : Byte) (s : State) : (ioWrite i v s).e = s.e := by
  unfold ioWrite; (repeat' split) <;> simp
@[simp] theorem arrayWrite_e (st : Store) (i : Nat) (v : Byte) (s : State) : (arrayWrite st i v s).e = s.e := by
  cases st <;> simp [arrayWrite]
@[simp] theorem ioWrite_h (i : Nat) (v : Byte) (s : State) : (ioWrite i v s).h = s.h := by
  unfold ioWrite; (repeat' split) <;> simp
@[simp] theorem arrayWrite_h (st : Store) (i : Nat) (v : Byte) (s : State) : (arrayWrite st i v s).h = s.h := by
  cases st <;> simp [arrayWrite]
@[simp] theorem ioWrite_l (i : Nat) (v : Byte) (s : State) : (ioWrite i v s).l = s.l := by
  unfold ioWrite; (repeat' split) <;> simp
@[simp] theorem arrayWrite_l (st : Store) (i : Nat) (v : Byte) (s : State) : (arrayWrite st i v s).l = s.l := by
  cases st <;> simp [arrayWrite]
@[simp] theorem ioWrite_sp (i : Nat) (v : Byte) (s : State) : (ioWrite i v s).sp = s.sp := by
  unfold ioWrite; (repeat' split) <;> simp
@[simp] theorem arrayWrite_sp (st : Store) (i : Nat) (v : Byte) (s : State) : (arrayWrite st i v s).sp = s.sp := by
  cases st <;> simp [arrayWrite]
@[simp] theorem ioWrite_pc (i : Nat) (v : Byte) (s : State) : (ioWrite i v s).pc = s.pc := by
  unfold ioWrite; (repeat' split) <;> simp
@[simp] theorem arrayWrite_pc (st : Store) (i : Nat) (v : Byte) (s : State) : (arrayWrite st i v s).pc = s.pc := by
  cases st <;> simp [arrayWrite]
@[simp] theorem ioWrite_ime (i : Nat) (v : Byte) (s : State) : (ioWrite i v s).ime = s.ime := by
  unfold ioWrite; (repeat' split) <;> simp
@[simp] theorem arrayWrite_ime (st : Store) (i : Nat) (v : Byte) (s : State) : (arrayWrite st i v s).ime = s.ime := by
  cases st <;> simp [arrayWrite]
@[simp] theorem ioWrite_fault (i : Nat) (v : Byte) (s : State) : (ioWrite i v s).fault = s.fault := by
  unfold ioWrite; (repeat' split) <;> simp
@[simp] theorem arrayWrite_fault (st : Store) (i : Nat) (v : Byte) (s : State) : (arrayWrite st i v s).fault = s.fault := by
  cases st <;> simp [arrayWrite]
@[simp] theorem ioWrite_run (i : Nat) (v : Byte) (s : State) : (ioWrite i v s).run = s.run := by
  unfold ioWrite; (repeat' split) <;> simp
@[simp] theorem arrayWrite_run (st : Store) (i : Nat) (v : Byte) (s : State) : (arrayWrite st i v s).run = s.run := by
  cases st <;> simp [arrayWrite]
@[simp] theorem ioWrite_lastDecoded (i : Nat) (v : Byte) (s : State) : (ioWrite i v s).lastDecoded = s.lastDecoded := by
  unfold ioWrite; (repeat' split) <;> simp
@[simp] theorem arrayWrite_lastDecoded (st : Store) (i : Nat) (v : Byte) (s : State) : (arrayWrite st i v s).lastDecoded = s.lastDecoded := by
  cases st <;> simp [arrayWrite]
@[simp] theorem ioWrite_cfg (i : Nat) (v : Byte) (s : State) : (ioWrite i v s).cfg = s.cfg := by
  unfold ioWrite; (repeat' split) <;> simp
@[simp] theorem arrayWrite_cfg (st : Store) (i : Nat) (v : Byte) (s : State) : (arrayWrite st i v s).cfg = s.cfg := by
  cases st <;> simp [arrayWrite]
@[simp] theorem ioWrite_cart (i : Nat) (v : Byte) (s : State) : (ioWrite i v s).cart = s.cart := by
  unfold ioWrite; (repeat' split) <;> simp
@[simp] theorem arrayWrite_cart (st : Store) (i : Nat) (v : Byte) (s : State) : (arrayWrite st i v s).cart = s.cart := by
  cases st <;> simp [arrayWrite]
@[simp] theorem State.write8_a (s : State) (p : Word) (v : Byte) : (s.write8 p v).a = s.a := by
  unfold State.write8; split <;> simp
@[simp] theorem State.write16_a (s : State) (p : Word) (v : Word) : (s.write16 p v).a = s.a := by simp [State.write16]
@[simp] theorem State.write8_f (s : State) (p : Word) (v : Byte) : (s.write8 p v).f = s.f := by
  unfold State.write8; split <;> simp
@[simp] theorem State.write16_f (s : State) (p : Word) (v : Word) : (s.write16 p v).f = s.f := by simp [State.write16]
@[simp] theorem State.write8_b (s : State) (p : Word) (v : Byte) : (s.write8 p v).b = s.b := by
  unfold State.write8; split <;> simp
@[simp] theorem State.write16_b (s : State) (p : Word) (v : Word) : (s.write16 p v).b = s.b := by simp [State.write16]
@[simp] theorem State.write8_c (s : State) (p : Word) (v : Byte) : (s.write8 p v).c = s.c := by
  unfold State.write8; split <;> simp
@[simp] theorem State.write16_c (s : State) (p : Word) (v : Word) : (s.write16 p v).c = s.c := by simp [State.write16]
@[simp] theorem State.write8_d (s : State) (p : Word) (v : Byte) : (s.write8 p v).d = s.d := by
  unfold State.write8; split <;> simp
@[simp] theorem State.write16_d (s : State) (p : Word) (v : Word) : (s.write16 p v).d = s.d := by simp [State.write16]
@[simp] theorem State.write8_e (s : State) (p : Word) (v : Byte) : (s.write8 p v).e = s.e := by
  unfold State.write8; split <;> simp
@[simp] theorem State.write16_e (s : State) (p : Word) (v : Word) : (s.write16 p v).e = s.e := by simp [State.write16]
@[simp] theorem State.write8_h (s : State) (p : Word) (v : Byte) : (s.write8 p v).h = s.h := by
  unfold State.write8; split <;> simp
@[simp] theorem State.write16_h (s : State) (p : Word) (v : Word) : (s.write16 p v).h = s.h := by simp [State.write16]
@[simp] theorem State.write8_l (s : State) (p : Word) (v : Byte) : (s.write8 p v).l = s.l := by
  unfold State.write8; split <;> simp
@[simp] theorem State.write16_l (s : State) (p : Word) (v : Word) : (s.write16 p v).l = s.l := by simp [State.write16]
@[simp] theorem State.write8_sp (s : State) (p : Word) (v : Byte) : (s.write8 p v).sp = s.sp := by
  unfold State.write8; split <;> simp
@[simp] theorem State.write16_sp (s : State) (p : Word) (v : Word) : (s.write16 p v).sp = s.sp := by simp [State.write16]
@[simp] theorem State.write8_pc (s : State) (p : Word) (v : Byte) : (s.write8 p v).pc = s.pc := by
  unfold State.write8; split <;> simp
@[simp] theorem State.write16_pc (s : State) (p : Word) (v : Word) : (s.write16 p v).pc = s.pc := by simp [State.write16]
@[simp] theorem State.write8_ime (s : State) (p : Word) (v : Byte) : (s.write8 p v).ime = s.ime := by
  unfold State.write8; split <;> simp
@[simp] theorem State.write16_ime (s : State) (p : Word) (v : Word) : (s.write16 p v).ime = s.ime := by simp [State.write16]
@[simp] theorem State.write8_fault (s : State) (p : Word) (v : Byte) : (s.write8 p v).fault = s.fault := by
  unfold State.write8; split <;> simp
@[simp] theorem State.write16_fault (s : State) (p : Word) (v : Word) : (s.write16 p v).fault = s.fault := by simp [State.write16]
@[simp] theorem State.write8_run (s : State) (p : Word) (v : Byte) : (s.write8 p v).run = s.run := by
  unfold State.write8; split <;> simp
@[simp] theorem State.write16_run (s : State) (p : Word) (v : Word) : (s.write16 p v).run = s.run := by simp [State.write16]
@[simp] theorem State.write8_lastDecoded (s : State) (p : Word) (v : Byte) : (s.write8 p v).lastDecoded = s.lastDecoded := by
  unfold State.write8; split <;> simp
@[simp] theorem State.write16_lastDecoded (s : State) (p : Word) (v : Word) : (s.write16 p v).lastDecoded = s.lastDecoded := by simp [State.write16]
@[simp] theorem State.write8_cfg (s : State) (p : Word) (v : Byte) : (s.write8 p v).cfg = s.cfg := by
  unfold State.write8; split <;> simp
@[simp] theorem State.write16_cfg (s : State) (p : Word) (v : Word) : (s.write16 p v).cfg = s.cfg := by simp [State.write16]

/-- A write to plain storage stores the byte and does nothing else (R62, R70). -/
theorem State.write8_plain (s : State) {p : Word} (v : Byte) (hp : plainStorage p = true) :
    ∃ st i, locate p = .array st i ∧ s.write8 p v = s.poke st i v := by
  unfold plainStorage at hp
  unfold State.write8
  split at hp <;> rename_i h <;> first
    | (refine ⟨_, _, h, ?_⟩; rw [h]; rfl)
    | (refine ⟨_, _, h, ?_⟩
       simp only [Bool.and_eq_true, bne_iff_ne, ne_eq] at hp
       rw [h]
       simp only [arrayWrite, ioWrite]
       rw [if_neg hp.1.1.1, if_neg hp.1.1.2, if_neg hp.1.2, if_neg hp.2])
    | cases hp

/-- Read after a write to plain storage (R90): the byte at every address of the same storage byte, and no other byte changed. -/
theorem State.read8_write8_plain (s : State) {p : Word} (q : Word) (v : Byte) (hw : ∀ st, (s.array st).wf = true) (hp : plainStorage p = true) :
    (s.write8 p v).read8 q = if unecho q = unecho p then v else s.read8 q := by
  obtain ⟨st, i, hl, he⟩ := s.write8_plain v hp
  rw [he, State.read8_poke s st i v q (hw st)]
  by_cases h : unecho q = unecho p
  · rw [if_pos h, if_pos ((locate_of_sameByte h).trans hl)]
  · rw [if_neg h, if_neg fun hq => h (sameByte_of_locate hq hl)]

/-- Storing a byte within an array's size keeps every memory in form. -/
theorem State.memoryWf_poke {s : State} {st : Store} {i : Nat} (v : Byte) (h : s.memoryWf) (hi : i < st.size) : (s.poke st i v).memoryWf := by
  refine ⟨fun st' => ?_, by simpa using h.extRam, by simpa using h.cart⟩
  by_cases hst : st' = st
  · subst hst
    rw [State.poke_array_same]
    exact ⟨Memory.wf_write i v (h.arrays st').1, Memory.within_write v (h.arrays st').2 hi⟩
  · rw [State.poke_array_ne s i v hst]
    exact h.arrays st'

/-- The DMA copy keeps every memory in form. -/
theorem memoryWf_dmaCopy {s : State} (v : Byte) (h : s.memoryWf) : (dmaCopy v s).memoryWf :=
  dmaCopy_keeps (P := State.memoryWf) v (fun _ _ hk ht => State.memoryWf_poke _ ht hk) s h

/-- Every byte write keeps every memory in form. -/
theorem State.memoryWf_write8 {s : State} (p : Word) (v : Byte) (h : s.memoryWf) : (s.write8 p v).memoryWf := by
  unfold State.write8
  split
  · exact ⟨h.arrays, h.extRam, Cart.wf_writeRom p v h.cart⟩
  · rename_i st i hl
    have hi := locate_index_lt hl
    cases st <;> first
      | exact State.memoryWf_poke v h hi
      | (simp only [arrayWrite, ioWrite]
         split
         · exact State.memoryWf_poke _ h (by decide)
         · split
           · exact State.memoryWf_poke _ h (by decide)
           · split
             · exact State.memoryWf_poke _ h (by decide)
             · split
               · exact memoryWf_dmaCopy v (State.memoryWf_poke _ h (by decide))
               · exact State.memoryWf_poke v h hi)
  · exact ⟨h.arrays, h.extRam, Cart.wf_writeRam p v h.extRam h.cart⟩
  · exact h

/-- Every 16-bit write keeps every memory in form. -/
theorem State.memoryWf_write16 {s : State} (p : Word) (v : Word) (h : s.memoryWf) : (s.write16 p v).memoryWf :=
  State.memoryWf_write8 _ _ (State.memoryWf_write8 _ _ h)

/-- The memories in form depend on the arrays, the cartridge and the parameters only. -/
theorem State.memoryWf_congr {s t : State} (h : s.memoryWf) (ha : ∀ st, t.array st = s.array st) (hc : t.cart = s.cart) (hf : t.cfg = s.cfg) : t.memoryWf := by
  refine ⟨fun st => ?_, ?_, ?_⟩
  · rw [ha]; exact h.arrays st
  · rw [hf]; exact h.extRam
  · rw [hc, hf]; exact h.cart

end Sys2Proof.Machine
end

