-- ==== Sys2Proof/Laws/Ops.lean ====
section
/-! SUPPORT. The shared operations: what `perform` can answer, the operands, the stack, and placing an instruction where a step fetches it. -/

namespace Sys2Proof.Machine

/-- An implemented instruction performs its rule from the state past it (R137). -/
theorem perform_implemented {i : Instr} {d : Descriptor} {s : State} (rule : State → State) (hd : i.descriptor = some d)
    (hp : d.implemented s.cfg.profile = true) : perform i rule s = .next (rule (s.start d)) := by
  simp [perform, hd, hp]

/-- An instruction outside the profile raises UnsupportedOpcode (R302). -/
theorem perform_unsupported {i : Instr} {d : Descriptor} {s : State} (rule : State → State) (hd : i.descriptor = some d)
    (hp : d.implemented s.cfg.profile = false) :
    perform i rule s = .next (s.raise (.unsupportedOpcode ⟨s.pc, d.opcodeBytes, d.prefixed⟩)) := by
  simp [perform, hd, hp]

/-- An opcode without a descriptor raises IllegalOpcode (R301). -/
theorem perform_illegal {i : Instr} {s : State} (rule : State → State) (hd : i.descriptor = none) :
    perform i rule s = .next (s.raise (.illegalOpcode ⟨s.pc, encode i, false⟩)) := by
  simp [perform, hd]

/-- Everything `perform` can answer: the rule's state, or the state with a fault recorded at its PC. -/
theorem perform_cases {i : Instr} {rule : State → State} {s : State} {o : Host.Outcome State Fault Refusal} (h : perform i rule s = o) :
    (∃ d, i.descriptor = some d ∧ d.implemented s.cfg.profile = true ∧ o = .next (rule (s.start d))) ∨
      ∃ f : Fault, f.pc = s.pc ∧ o = .next (s.raise f) := by
  cases hd : i.descriptor with
  | none => exact .inr ⟨_, rfl, (perform_illegal rule hd).symm.trans h |>.symm⟩
  | some d =>
    cases hp : d.implemented s.cfg.profile with
    | true => exact .inl ⟨d, rfl, hp, (perform_implemented rule hd hp).symm.trans h |>.symm⟩
    | false => exact .inr ⟨_, rfl, (perform_unsupported rule hd hp).symm.trans h |>.symm⟩

/-- `perform` always answers a next state. -/
theorem perform_next (i : Instr) (rule : State → State) (s : State) : ∃ t, perform i rule s = .next t := by
  rcases perform_cases (rfl : perform i rule s = _) with ⟨d, _, _, h⟩ | ⟨f, _, h⟩
  · exact ⟨_, h⟩
  · exact ⟨_, h⟩

/-- FULL implements every descriptor (R136). -/
@[simp] theorem Descriptor.implemented_full (d : Descriptor) : d.implemented .full = true := rfl

/-- A store does not depend on PC or `lastDecoded`. -/
theorem State.poke_start (s : State) (x : Descriptor) (st : Store) (i : Nat) (v : Byte) : (s.start x).poke st i v = (s.poke st i v).start x := by
  cases st <;> rfl

/-- A DMA copy does not depend on PC or `lastDecoded`. -/
theorem dmaCopy_start (v : Byte) (s : State) (x : Descriptor) : dmaCopy v (s.start x) = (dmaCopy v s).start x := by
  unfold dmaCopy
  generalize List.range Config.oamSize = ks
  induction ks generalizing s with
  | nil => rfl
  | cons k ks ih =>
    rw [List.foldl_cons, List.foldl_cons, ← ih]
    congr 1

/-- A byte write does not depend on PC or `lastDecoded`. -/
theorem State.write8_start (s : State) (x : Descriptor) (p : Word) (v : Byte) : (s.start x).write8 p v = (s.write8 p v).start x := by
  unfold State.write8
  split
  · rfl
  · rename_i st i _
    cases st <;> simp only [arrayWrite, ioWrite, State.poke_start, dmaCopy_start]
    (repeat' split) <;> rfl
  · rfl
  · rfl

/-- A 16-bit write does not depend on PC or `lastDecoded`. -/
theorem State.write16_start (s : State) (x : Descriptor) (p : Word) (v : Word) : (s.start x).write16 p v = (s.write16 p v).start x := by
  simp only [State.write16, State.write8_start]

/-- An operand's value does not depend on PC or `lastDecoded`. -/
@[simp] theorem State.start_get8 (s : State) (x : Descriptor) (r : R8) : (s.start x).get8 r = s.get8 r := by cases r <;> rfl

/-- An operand write does not depend on PC or `lastDecoded`. -/
theorem State.put8_start (s : State) (x : Descriptor) (r : R8) (v : Byte) : (s.start x).put8 r v = (s.put8 r v).start x := by
  cases r <;> first
    | rfl
    | exact State.write8_start s x s.hl v

@[simp] theorem State.start_get16 (s : State) (x : Descriptor) (r : R16) : (s.start x).get16 r = s.get16 r := by cases r <;> rfl

@[simp] theorem State.start_getPair (s : State) (x : Descriptor) (q : Pair) : (s.start x).getPair q = s.getPair q := by cases q <;> rfl

/-- A 16-bit register holds what was written to it (R24, R25). -/
@[simp] theorem State.put16_get16 (s : State) (r : R16) (v : Word) : (s.put16 r v).get16 r = v := by
  cases r <;> simp [State.put16, State.get16]

/-- An 8-bit register holds what was written to it. -/
theorem State.put8_get8 (s : State) {r : R8} (v : Byte) (h : r ≠ .atHl) : (s.put8 r v).get8 r = v := by
  cases r <;> first
    | rfl
    | exact absurd rfl h

/-- Writing an 8-bit register leaves the others alone. -/
theorem State.put8_get8_ne (s : State) {r r' : R8} (v : Byte) (h : r ≠ .atHl) (h' : r' ≠ .atHl) (hr : r' ≠ r) : (s.put8 r v).get8 r' = s.get8 r' := by
  cases r <;> cases r' <;> first
    | rfl
    | exact absurd rfl h
    | exact absurd rfl h'
    | exact absurd rfl hr

/-- Writing an operand keeps every memory in form. -/
theorem State.memoryWf_put8 {s : State} (r : R8) (v : Byte) (h : s.memoryWf) : (s.put8 r v).memoryWf := by
  cases r <;> first
    | exact State.memoryWf_write8 _ v h
    | exact State.memoryWf_congr h (fun st => rfl) rfl rfl

/-- Pushing keeps every memory in form. -/
theorem State.memoryWf_push16 {s : State} (v : Word) (h : s.memoryWf) : (s.push16 v).memoryWf :=
  State.memoryWf_write16 _ v (State.memoryWf_congr h (fun _ => rfl) rfl rfl)

/-- A condition reads Z or C only (R200). -/
theorem State.cond_eq (s : State) (cc : Cond) :
    s.cond cc = match cc with | .nz => !s.f.getLsbD 7 | .z => s.f.getLsbD 7 | .nc => !s.f.getLsbD 4 | .c => s.f.getLsbD 4 := by
  cases cc <;> rfl

/-- The address after the low byte of a pushed word. -/
theorem sub_two_add_one (p : Word) : p - 2 + 1 = p - 1 := by bv_omega

/-- Every array after `construct()` is filled with `MEM_INIT` (R41). -/
theorem State.construct_array (cfg : Config) (st : Store) : (State.construct cfg).array st = Memory.filled st.size cfg.memInit := by
  cases st <;> rfl

/-- The image of a placed instruction: three bytes at 0x0100 to 0x0102 (log entry 7). -/
theorem State.reset_withFetchWord (nbits w : Nat) :
    State.reset.withFetchWord nbits w =
      { State.reset with
        cart := .noBanking ⟨(((Memory.write [] 0x100 ((tableBytes nbits (w % 2 ^ nbits)).getD 0 0)).write 0x101
          ((tableBytes nbits (w % 2 ^ nbits)).getD 1 0)).write 0x102 ((tableBytes nbits (w % 2 ^ nbits)).getD 2 0)), 0x8000⟩ } := rfl

/-- A byte of the image of a placed instruction. -/
theorem placed_read (b0 b1 b2 : Byte) (k : Nat) :
    (((Memory.write [] 0x100 b0).write 0x101 b1).write 0x102 b2).read k =
      if 0x102 = k then b2 else if 0x101 = k then b1 else if 0x100 = k then b0 else Config.unlisted := by
  have h0 : Memory.wf [] = true := rfl
  have h1 := Memory.wf_write 0x100 b0 h0
  have h2 := Memory.wf_write 0x101 b1 h1
  rw [Memory.read_write_wf h2, Memory.read_write_wf h1, Memory.read_write_wf h0]
  rfl

/-- The step after an instruction is placed at reset runs exactly that instruction. -/
theorem step_reset_withFetchWord (nbits w : Nat) :
    step (State.reset.withFetchWord nbits w) =
      exec (decodeBytes ((tableBytes nbits (w % 2 ^ nbits)).getD 0 0) ((tableBytes nbits (w % 2 ^ nbits)).getD 1 0)
        ((tableBytes nbits (w % 2 ^ nbits)).getD 2 0)) (State.reset.withFetchWord nbits w) := by
  rw [State.reset_withFetchWord]
  generalize (tableBytes nbits (w % 2 ^ nbits)).getD 0 0 = b0
  generalize (tableBytes nbits (w % 2 ^ nbits)).getD 1 0 = b1
  generalize (tableBytes nbits (w % 2 ^ nbits)).getD 2 0 = b2
  have r (k : Nat) := placed_read b0 b1 b2 k
  generalize (((Memory.write [] 0x100 b0).write 0x101 b1).write 0x102 b2) = m at r
  have e0 := r 0x100
  have e1 := r 0x101
  have e2 := r 0x102
  simp only [if_pos, show ¬ (0x102 = 0x100) from by decide, show ¬ (0x101 = 0x100) from by decide, show ¬ (0x102 = 0x101) from by decide, if_false] at e0 e1 e2
  conv => rhs; rw [← e0, ← e1, ← e2]
  rfl

end Sys2Proof.Machine
end

