-- ==== Sys2Proof/Laws/PerInstr.lean ====
section
/-! SUPPORT. One fact per constructor about the instruction as data: its encoding has the length its descriptor gives (R120, R131). -/

namespace Sys2Proof.Laws

/-- The encoding of an instruction has the byte length of its descriptor, and a byte without a descriptor is one byte long (R131, R267). -/
def EncodeLength.Statement (i : Instr) : Prop :=
  (encode i).length = (i.descriptor.map Descriptor.length).getD 1

theorem EncodeLength.nop : EncodeLength.Statement .nop := rfl
theorem EncodeLength.ldBcN16 (n16 : Word) : EncodeLength.Statement (.ldBcN16 n16) := rfl
theorem EncodeLength.ldAtBcA : EncodeLength.Statement .ldAtBcA := rfl
theorem EncodeLength.incBc : EncodeLength.Statement .incBc := rfl
theorem EncodeLength.incB : EncodeLength.Statement .incB := rfl
theorem EncodeLength.decB : EncodeLength.Statement .decB := rfl
theorem EncodeLength.ldBN8 (n8 : Byte) : EncodeLength.Statement (.ldBN8 n8) := rfl
theorem EncodeLength.rlca : EncodeLength.Statement .rlca := rfl
theorem EncodeLength.ldAtA16Sp (a16 : Word) : EncodeLength.Statement (.ldAtA16Sp a16) := rfl
theorem EncodeLength.addHlBc : EncodeLength.Statement .addHlBc := rfl
theorem EncodeLength.ldAAtBc : EncodeLength.Statement .ldAAtBc := rfl
theorem EncodeLength.decBc : EncodeLength.Statement .decBc := rfl
theorem EncodeLength.incC : EncodeLength.Statement .incC := rfl
theorem EncodeLength.decC : EncodeLength.Statement .decC := rfl
theorem EncodeLength.ldCN8 (n8 : Byte) : EncodeLength.Statement (.ldCN8 n8) := rfl
theorem EncodeLength.rrca : EncodeLength.Statement .rrca := rfl
theorem EncodeLength.stop (ignored : Byte) : EncodeLength.Statement (.stop ignored) := rfl
theorem EncodeLength.ldDeN16 (n16 : Word) : EncodeLength.Statement (.ldDeN16 n16) := rfl
theorem EncodeLength.ldAtDeA : EncodeLength.Statement .ldAtDeA := rfl
theorem EncodeLength.incDe : EncodeLength.Statement .incDe := rfl
theorem EncodeLength.incD : EncodeLength.Statement .incD := rfl
theorem EncodeLength.decD : EncodeLength.Statement .decD := rfl
theorem EncodeLength.ldDN8 (n8 : Byte) : EncodeLength.Statement (.ldDN8 n8) := rfl
theorem EncodeLength.rla : EncodeLength.Statement .rla := rfl
theorem EncodeLength.jrE8 (e8 : Byte) : EncodeLength.Statement (.jrE8 e8) := rfl
theorem EncodeLength.addHlDe : EncodeLength.Statement .addHlDe := rfl
theorem EncodeLength.ldAAtDe : EncodeLength.Statement .ldAAtDe := rfl
theorem EncodeLength.decDe : EncodeLength.Statement .decDe := rfl
theorem EncodeLength.incE : EncodeLength.Statement .incE := rfl
theorem EncodeLength.decE : EncodeLength.Statement .decE := rfl
theorem EncodeLength.ldEN8 (n8 : Byte) : EncodeLength.Statement (.ldEN8 n8) := rfl
theorem EncodeLength.rra : EncodeLength.Statement .rra := rfl
theorem EncodeLength.jrNzE8 (e8 : Byte) : EncodeLength.Statement (.jrNzE8 e8) := rfl
theorem EncodeLength.ldHlN16 (n16 : Word) : EncodeLength.Statement (.ldHlN16 n16) := rfl
theorem EncodeLength.ldAtHlIncA : EncodeLength.Statement .ldAtHlIncA := rfl
theorem EncodeLength.incHl : EncodeLength.Statement .incHl := rfl
theorem EncodeLength.incH : EncodeLength.Statement .incH := rfl
theorem EncodeLength.decH : EncodeLength.Statement .decH := rfl
theorem EncodeLength.ldHN8 (n8 : Byte) : EncodeLength.Statement (.ldHN8 n8) := rfl
theorem EncodeLength.daa : EncodeLength.Statement .daa := rfl
theorem EncodeLength.jrZE8 (e8 : Byte) : EncodeLength.Statement (.jrZE8 e8) := rfl
theorem EncodeLength.addHlHl : EncodeLength.Statement .addHlHl := rfl
theorem EncodeLength.ldAAtHlInc : EncodeLength.Statement .ldAAtHlInc := rfl
theorem EncodeLength.decHl : EncodeLength.Statement .decHl := rfl
theorem EncodeLength.incL : EncodeLength.Statement .incL := rfl
theorem EncodeLength.decL : EncodeLength.Statement .decL := rfl
theorem EncodeLength.ldLN8 (n8 : Byte) : EncodeLength.Statement (.ldLN8 n8) := rfl
theorem EncodeLength.cpl : EncodeLength.Statement .cpl := rfl
theorem EncodeLength.jrNcE8 (e8 : Byte) : EncodeLength.Statement (.jrNcE8 e8) := rfl
theorem EncodeLength.ldSpN16 (n16 : Word) : EncodeLength.Statement (.ldSpN16 n16) := rfl
theorem EncodeLength.ldAtHlDecA : EncodeLength.Statement .ldAtHlDecA := rfl
theorem EncodeLength.incSp : EncodeLength.Statement .incSp := rfl
theorem EncodeLength.incAtHl : EncodeLength.Statement .incAtHl := rfl
theorem EncodeLength.decAtHl : EncodeLength.Statement .decAtHl := rfl
theorem EncodeLength.ldAtHlN8 (n8 : Byte) : EncodeLength.Statement (.ldAtHlN8 n8) := rfl
theorem EncodeLength.scf : EncodeLength.Statement .scf := rfl
theorem EncodeLength.jrCE8 (e8 : Byte) : EncodeLength.Statement (.jrCE8 e8) := rfl
theorem EncodeLength.addHlSp : EncodeLength.Statement .addHlSp := rfl
theorem EncodeLength.ldAAtHlDec : EncodeLength.Statement .ldAAtHlDec := rfl
theorem EncodeLength.decSp : EncodeLength.Statement .decSp := rfl
theorem EncodeLength.incA : EncodeLength.Statement .incA := rfl
theorem EncodeLength.decA : EncodeLength.Statement .decA := rfl
theorem EncodeLength.ldAN8 (n8 : Byte) : EncodeLength.Statement (.ldAN8 n8) := rfl
theorem EncodeLength.ccf : EncodeLength.Statement .ccf := rfl
theorem EncodeLength.ldBB : EncodeLength.Statement .ldBB := rfl
theorem EncodeLength.ldBC : EncodeLength.Statement .ldBC := rfl
theorem EncodeLength.ldBD : EncodeLength.Statement .ldBD := rfl
theorem EncodeLength.ldBE : EncodeLength.Statement .ldBE := rfl
theorem EncodeLength.ldBH : EncodeLength.Statement .ldBH := rfl
theorem EncodeLength.ldBL : EncodeLength.Statement .ldBL := rfl
theorem EncodeLength.ldBAtHl : EncodeLength.Statement .ldBAtHl := rfl
theorem EncodeLength.ldBA : EncodeLength.Statement .ldBA := rfl
theorem EncodeLength.ldCB : EncodeLength.Statement .ldCB := rfl
theorem EncodeLength.ldCC : EncodeLength.Statement .ldCC := rfl
theorem EncodeLength.ldCD : EncodeLength.Statement .ldCD := rfl
theorem EncodeLength.ldCE : EncodeLength.Statement .ldCE := rfl
theorem EncodeLength.ldCH : EncodeLength.Statement .ldCH := rfl
theorem EncodeLength.ldCL : EncodeLength.Statement .ldCL := rfl
theorem EncodeLength.ldCAtHl : EncodeLength.Statement .ldCAtHl := rfl
theorem EncodeLength.ldCA : EncodeLength.Statement .ldCA := rfl
theorem EncodeLength.ldDB : EncodeLength.Statement .ldDB := rfl
theorem EncodeLength.ldDC : EncodeLength.Statement .ldDC := rfl
theorem EncodeLength.ldDD : EncodeLength.Statement .ldDD := rfl
theorem EncodeLength.ldDE : EncodeLength.Statement .ldDE := rfl
theorem EncodeLength.ldDH : EncodeLength.Statement .ldDH := rfl
theorem EncodeLength.ldDL : EncodeLength.Statement .ldDL := rfl
theorem EncodeLength.ldDAtHl : EncodeLength.Statement .ldDAtHl := rfl
theorem EncodeLength.ldDA : EncodeLength.Statement .ldDA := rfl
theorem EncodeLength.ldEB : EncodeLength.Statement .ldEB := rfl
theorem EncodeLength.ldEC : EncodeLength.Statement .ldEC := rfl
theorem EncodeLength.ldED : EncodeLength.Statement .ldED := rfl
theorem EncodeLength.ldEE : EncodeLength.Statement .ldEE := rfl
theorem EncodeLength.ldEH : EncodeLength.Statement .ldEH := rfl
theorem EncodeLength.ldEL : EncodeLength.Statement .ldEL := rfl
theorem EncodeLength.ldEAtHl : EncodeLength.Statement .ldEAtHl := rfl
theorem EncodeLength.ldEA : EncodeLength.Statement .ldEA := rfl
theorem EncodeLength.ldHB : EncodeLength.Statement .ldHB := rfl
theorem EncodeLength.ldHC : EncodeLength.Statement .ldHC := rfl
theorem EncodeLength.ldHD : EncodeLength.Statement .ldHD := rfl
theorem EncodeLength.ldHE : EncodeLength.Statement .ldHE := rfl
theorem EncodeLength.ldHH : EncodeLength.Statement .ldHH := rfl
theorem EncodeLength.ldHL : EncodeLength.Statement .ldHL := rfl
theorem EncodeLength.ldHAtHl : EncodeLength.Statement .ldHAtHl := rfl
theorem EncodeLength.ldHA : EncodeLength.Statement .ldHA := rfl
theorem EncodeLength.ldLB : EncodeLength.Statement .ldLB := rfl
theorem EncodeLength.ldLC : EncodeLength.Statement .ldLC := rfl
theorem EncodeLength.ldLD : EncodeLength.Statement .ldLD := rfl
theorem EncodeLength.ldLE : EncodeLength.Statement .ldLE := rfl
theorem EncodeLength.ldLH : EncodeLength.Statement .ldLH := rfl
theorem EncodeLength.ldLL : EncodeLength.Statement .ldLL := rfl
theorem EncodeLength.ldLAtHl : EncodeLength.Statement .ldLAtHl := rfl
theorem EncodeLength.ldLA : EncodeLength.Statement .ldLA := rfl
theorem EncodeLength.ldAtHlB : EncodeLength.Statement .ldAtHlB := rfl
theorem EncodeLength.ldAtHlC : EncodeLength.Statement .ldAtHlC := rfl
theorem EncodeLength.ldAtHlD : EncodeLength.Statement .ldAtHlD := rfl
theorem EncodeLength.ldAtHlE : EncodeLength.Statement .ldAtHlE := rfl
theorem EncodeLength.ldAtHlH : EncodeLength.Statement .ldAtHlH := rfl
theorem EncodeLength.ldAtHlL : EncodeLength.Statement .ldAtHlL := rfl
theorem EncodeLength.halt : EncodeLength.Statement .halt := rfl
theorem EncodeLength.ldAtHlA : EncodeLength.Statement .ldAtHlA := rfl
theorem EncodeLength.ldAB : EncodeLength.Statement .ldAB := rfl
theorem EncodeLength.ldAC : EncodeLength.Statement .ldAC := rfl
theorem EncodeLength.ldAD : EncodeLength.Statement .ldAD := rfl
theorem EncodeLength.ldAE : EncodeLength.Statement .ldAE := rfl
theorem EncodeLength.ldAH : EncodeLength.Statement .ldAH := rfl
theorem EncodeLength.ldAL : EncodeLength.Statement .ldAL := rfl
theorem EncodeLength.ldAAtHl : EncodeLength.Statement .ldAAtHl := rfl
theorem EncodeLength.ldAA : EncodeLength.Statement .ldAA := rfl
theorem EncodeLength.addAB : EncodeLength.Statement .addAB := rfl
theorem EncodeLength.addAC : EncodeLength.Statement .addAC := rfl
theorem EncodeLength.addAD : EncodeLength.Statement .addAD := rfl
theorem EncodeLength.addAE : EncodeLength.Statement .addAE := rfl
theorem EncodeLength.addAH : EncodeLength.Statement .addAH := rfl
theorem EncodeLength.addAL : EncodeLength.Statement .addAL := rfl
theorem EncodeLength.addAAtHl : EncodeLength.Statement .addAAtHl := rfl
theorem EncodeLength.addAA : EncodeLength.Statement .addAA := rfl
theorem EncodeLength.adcAB : EncodeLength.Statement .adcAB := rfl
theorem EncodeLength.adcAC : EncodeLength.Statement .adcAC := rfl
theorem EncodeLength.adcAD : EncodeLength.Statement .adcAD := rfl
theorem EncodeLength.adcAE : EncodeLength.Statement .adcAE := rfl
theorem EncodeLength.adcAH : EncodeLength.Statement .adcAH := rfl
theorem EncodeLength.adcAL : EncodeLength.Statement .adcAL := rfl
theorem EncodeLength.adcAAtHl : EncodeLength.Statement .adcAAtHl := rfl
theorem EncodeLength.adcAA : EncodeLength.Statement .adcAA := rfl
theorem EncodeLength.subAB : EncodeLength.Statement .subAB := rfl
theorem EncodeLength.subAC : EncodeLength.Statement .subAC := rfl
theorem EncodeLength.subAD : EncodeLength.Statement .subAD := rfl
theorem EncodeLength.subAE : EncodeLength.Statement .subAE := rfl
theorem EncodeLength.subAH : EncodeLength.Statement .subAH := rfl
theorem EncodeLength.subAL : EncodeLength.Statement .subAL := rfl
theorem EncodeLength.subAAtHl : EncodeLength.Statement .subAAtHl := rfl
theorem EncodeLength.subAA : EncodeLength.Statement .subAA := rfl
theorem EncodeLength.sbcAB : EncodeLength.Statement .sbcAB := rfl
theorem EncodeLength.sbcAC : EncodeLength.Statement .sbcAC := rfl
theorem EncodeLength.sbcAD : EncodeLength.Statement .sbcAD := rfl
theorem EncodeLength.sbcAE : EncodeLength.Statement .sbcAE := rfl
theorem EncodeLength.sbcAH : EncodeLength.Statement .sbcAH := rfl
theorem EncodeLength.sbcAL : EncodeLength.Statement .sbcAL := rfl
theorem EncodeLength.sbcAAtHl : EncodeLength.Statement .sbcAAtHl := rfl
theorem EncodeLength.sbcAA : EncodeLength.Statement .sbcAA := rfl
theorem EncodeLength.andAB : EncodeLength.Statement .andAB := rfl
theorem EncodeLength.andAC : EncodeLength.Statement .andAC := rfl
theorem EncodeLength.andAD : EncodeLength.Statement .andAD := rfl
theorem EncodeLength.andAE : EncodeLength.Statement .andAE := rfl
theorem EncodeLength.andAH : EncodeLength.Statement .andAH := rfl
theorem EncodeLength.andAL : EncodeLength.Statement .andAL := rfl
theorem EncodeLength.andAAtHl : EncodeLength.Statement .andAAtHl := rfl
theorem EncodeLength.andAA : EncodeLength.Statement .andAA := rfl
theorem EncodeLength.xorAB : EncodeLength.Statement .xorAB := rfl
theorem EncodeLength.xorAC : EncodeLength.Statement .xorAC := rfl
theorem EncodeLength.xorAD : EncodeLength.Statement .xorAD := rfl
theorem EncodeLength.xorAE : EncodeLength.Statement .xorAE := rfl
theorem EncodeLength.xorAH : EncodeLength.Statement .xorAH := rfl
theorem EncodeLength.xorAL : EncodeLength.Statement .xorAL := rfl
theorem EncodeLength.xorAAtHl : EncodeLength.Statement .xorAAtHl := rfl
theorem EncodeLength.xorAA : EncodeLength.Statement .xorAA := rfl
theorem EncodeLength.orAB : EncodeLength.Statement .orAB := rfl
theorem EncodeLength.orAC : EncodeLength.Statement .orAC := rfl
theorem EncodeLength.orAD : EncodeLength.Statement .orAD := rfl
theorem EncodeLength.orAE : EncodeLength.Statement .orAE := rfl
theorem EncodeLength.orAH : EncodeLength.Statement .orAH := rfl
theorem EncodeLength.orAL : EncodeLength.Statement .orAL := rfl
theorem EncodeLength.orAAtHl : EncodeLength.Statement .orAAtHl := rfl
theorem EncodeLength.orAA : EncodeLength.Statement .orAA := rfl
theorem EncodeLength.cpAB : EncodeLength.Statement .cpAB := rfl
theorem EncodeLength.cpAC : EncodeLength.Statement .cpAC := rfl
theorem EncodeLength.cpAD : EncodeLength.Statement .cpAD := rfl
theorem EncodeLength.cpAE : EncodeLength.Statement .cpAE := rfl
theorem EncodeLength.cpAH : EncodeLength.Statement .cpAH := rfl
theorem EncodeLength.cpAL : EncodeLength.Statement .cpAL := rfl
theorem EncodeLength.cpAAtHl : EncodeLength.Statement .cpAAtHl := rfl
theorem EncodeLength.cpAA : EncodeLength.Statement .cpAA := rfl
theorem EncodeLength.retNz : EncodeLength.Statement .retNz := rfl
theorem EncodeLength.popBc : EncodeLength.Statement .popBc := rfl
theorem EncodeLength.jpNzA16 (a16 : Word) : EncodeLength.Statement (.jpNzA16 a16) := rfl
theorem EncodeLength.jpA16 (a16 : Word) : EncodeLength.Statement (.jpA16 a16) := rfl
theorem EncodeLength.callNzA16 (a16 : Word) : EncodeLength.Statement (.callNzA16 a16) := rfl
theorem EncodeLength.pushBc : EncodeLength.Statement .pushBc := rfl
theorem EncodeLength.addAN8 (n8 : Byte) : EncodeLength.Statement (.addAN8 n8) := rfl
theorem EncodeLength.rst00 : EncodeLength.Statement .rst00 := rfl
theorem EncodeLength.retZ : EncodeLength.Statement .retZ := rfl
theorem EncodeLength.ret : EncodeLength.Statement .ret := rfl
theorem EncodeLength.jpZA16 (a16 : Word) : EncodeLength.Statement (.jpZA16 a16) := rfl
theorem EncodeLength.prefixCb (op2 : Byte) : EncodeLength.Statement (.prefixCb op2) := rfl
theorem EncodeLength.callZA16 (a16 : Word) : EncodeLength.Statement (.callZA16 a16) := rfl
theorem EncodeLength.callA16 (a16 : Word) : EncodeLength.Statement (.callA16 a16) := rfl
theorem EncodeLength.adcAN8 (n8 : Byte) : EncodeLength.Statement (.adcAN8 n8) := rfl
theorem EncodeLength.rst08 : EncodeLength.Statement .rst08 := rfl
theorem EncodeLength.retNc : EncodeLength.Statement .retNc := rfl
theorem EncodeLength.popDe : EncodeLength.Statement .popDe := rfl
theorem EncodeLength.jpNcA16 (a16 : Word) : EncodeLength.Statement (.jpNcA16 a16) := rfl
theorem EncodeLength.illegal (op : Byte) : EncodeLength.Statement (.illegal op) := rfl
theorem EncodeLength.callNcA16 (a16 : Word) : EncodeLength.Statement (.callNcA16 a16) := rfl
theorem EncodeLength.pushDe : EncodeLength.Statement .pushDe := rfl
theorem EncodeLength.subAN8 (n8 : Byte) : EncodeLength.Statement (.subAN8 n8) := rfl
theorem EncodeLength.rst10 : EncodeLength.Statement .rst10 := rfl
theorem EncodeLength.retC : EncodeLength.Statement .retC := rfl
theorem EncodeLength.reti : EncodeLength.Statement .reti := rfl
theorem EncodeLength.jpCA16 (a16 : Word) : EncodeLength.Statement (.jpCA16 a16) := rfl
theorem EncodeLength.callCA16 (a16 : Word) : EncodeLength.Statement (.callCA16 a16) := rfl
theorem EncodeLength.sbcAN8 (n8 : Byte) : EncodeLength.Statement (.sbcAN8 n8) := rfl
theorem EncodeLength.rst18 : EncodeLength.Statement .rst18 := rfl
theorem EncodeLength.ldhAtA8A (a8 : Byte) : EncodeLength.Statement (.ldhAtA8A a8) := rfl
theorem EncodeLength.popHl : EncodeLength.Statement .popHl := rfl
theorem EncodeLength.ldAtCA : EncodeLength.Statement .ldAtCA := rfl
theorem EncodeLength.pushHl : EncodeLength.Statement .pushHl := rfl
theorem EncodeLength.andAN8 (n8 : Byte) : EncodeLength.Statement (.andAN8 n8) := rfl
theorem EncodeLength.rst20 : EncodeLength.Statement .rst20 := rfl
theorem EncodeLength.addSpE8 (e8 : Byte) : EncodeLength.Statement (.addSpE8 e8) := rfl
theorem EncodeLength.jpHl : EncodeLength.Statement .jpHl := rfl
theorem EncodeLength.ldAtA16A (a16 : Word) : EncodeLength.Statement (.ldAtA16A a16) := rfl
theorem EncodeLength.xorAN8 (n8 : Byte) : EncodeLength.Statement (.xorAN8 n8) := rfl
theorem EncodeLength.rst28 : EncodeLength.Statement .rst28 := rfl
theorem EncodeLength.ldhAAtA8 (a8 : Byte) : EncodeLength.Statement (.ldhAAtA8 a8) := rfl
theorem EncodeLength.popAf : EncodeLength.Statement .popAf := rfl
theorem EncodeLength.ldAAtC : EncodeLength.Statement .ldAAtC := rfl
theorem EncodeLength.di : EncodeLength.Statement .di := rfl
theorem EncodeLength.pushAf : EncodeLength.Statement .pushAf := rfl
theorem EncodeLength.orAN8 (n8 : Byte) : EncodeLength.Statement (.orAN8 n8) := rfl
theorem EncodeLength.rst30 : EncodeLength.Statement .rst30 := rfl
theorem EncodeLength.ldHlSpE8 (e8 : Byte) : EncodeLength.Statement (.ldHlSpE8 e8) := rfl
theorem EncodeLength.ldSpHl : EncodeLength.Statement .ldSpHl := rfl
theorem EncodeLength.ldAAtA16 (a16 : Word) : EncodeLength.Statement (.ldAAtA16 a16) := rfl
theorem EncodeLength.ei : EncodeLength.Statement .ei := rfl
theorem EncodeLength.cpAN8 (n8 : Byte) : EncodeLength.Statement (.cpAN8 n8) := rfl
theorem EncodeLength.rst38 : EncodeLength.Statement .rst38 := rfl
theorem EncodeLength.rlcB : EncodeLength.Statement .rlcB := rfl
theorem EncodeLength.rlcC : EncodeLength.Statement .rlcC := rfl
theorem EncodeLength.rlcD : EncodeLength.Statement .rlcD := rfl
theorem EncodeLength.rlcE : EncodeLength.Statement .rlcE := rfl
theorem EncodeLength.rlcH : EncodeLength.Statement .rlcH := rfl
theorem EncodeLength.rlcL : EncodeLength.Statement .rlcL := rfl
theorem EncodeLength.rlcAtHl : EncodeLength.Statement .rlcAtHl := rfl
theorem EncodeLength.rlcA : EncodeLength.Statement .rlcA := rfl
theorem EncodeLength.rrcB : EncodeLength.Statement .rrcB := rfl
theorem EncodeLength.rrcC : EncodeLength.Statement .rrcC := rfl
theorem EncodeLength.rrcD : EncodeLength.Statement .rrcD := rfl
theorem EncodeLength.rrcE : EncodeLength.Statement .rrcE := rfl
theorem EncodeLength.rrcH : EncodeLength.Statement .rrcH := rfl
theorem EncodeLength.rrcL : EncodeLength.Statement .rrcL := rfl
theorem EncodeLength.rrcAtHl : EncodeLength.Statement .rrcAtHl := rfl
theorem EncodeLength.rrcA : EncodeLength.Statement .rrcA := rfl
theorem EncodeLength.rlB : EncodeLength.Statement .rlB := rfl
theorem EncodeLength.rlC : EncodeLength.Statement .rlC := rfl
theorem EncodeLength.rlD : EncodeLength.Statement .rlD := rfl
theorem EncodeLength.rlE : EncodeLength.Statement .rlE := rfl
theorem EncodeLength.rlH : EncodeLength.Statement .rlH := rfl
theorem EncodeLength.rlL : EncodeLength.Statement .rlL := rfl
theorem EncodeLength.rlAtHl : EncodeLength.Statement .rlAtHl := rfl
theorem EncodeLength.rlA : EncodeLength.Statement .rlA := rfl
theorem EncodeLength.rrB : EncodeLength.Statement .rrB := rfl
theorem EncodeLength.rrC : EncodeLength.Statement .rrC := rfl
theorem EncodeLength.rrD : EncodeLength.Statement .rrD := rfl
theorem EncodeLength.rrE : EncodeLength.Statement .rrE := rfl
theorem EncodeLength.rrH : EncodeLength.Statement .rrH := rfl
theorem EncodeLength.rrL : EncodeLength.Statement .rrL := rfl
theorem EncodeLength.rrAtHl : EncodeLength.Statement .rrAtHl := rfl
theorem EncodeLength.rrA : EncodeLength.Statement .rrA := rfl
theorem EncodeLength.slaB : EncodeLength.Statement .slaB := rfl
theorem EncodeLength.slaC : EncodeLength.Statement .slaC := rfl
theorem EncodeLength.slaD : EncodeLength.Statement .slaD := rfl
theorem EncodeLength.slaE : EncodeLength.Statement .slaE := rfl
theorem EncodeLength.slaH : EncodeLength.Statement .slaH := rfl
theorem EncodeLength.slaL : EncodeLength.Statement .slaL := rfl
theorem EncodeLength.slaAtHl : EncodeLength.Statement .slaAtHl := rfl
theorem EncodeLength.slaA : EncodeLength.Statement .slaA := rfl
theorem EncodeLength.sraB : EncodeLength.Statement .sraB := rfl
theorem EncodeLength.sraC : EncodeLength.Statement .sraC := rfl
theorem EncodeLength.sraD : EncodeLength.Statement .sraD := rfl
theorem EncodeLength.sraE : EncodeLength.Statement .sraE := rfl
theorem EncodeLength.sraH : EncodeLength.Statement .sraH := rfl
theorem EncodeLength.sraL : EncodeLength.Statement .sraL := rfl
theorem EncodeLength.sraAtHl : EncodeLength.Statement .sraAtHl := rfl
theorem EncodeLength.sraA : EncodeLength.Statement .sraA := rfl
theorem EncodeLength.swapB : EncodeLength.Statement .swapB := rfl
theorem EncodeLength.swapC : EncodeLength.Statement .swapC := rfl
theorem EncodeLength.swapD : EncodeLength.Statement .swapD := rfl
theorem EncodeLength.swapE : EncodeLength.Statement .swapE := rfl
theorem EncodeLength.swapH : EncodeLength.Statement .swapH := rfl
theorem EncodeLength.swapL : EncodeLength.Statement .swapL := rfl
theorem EncodeLength.swapAtHl : EncodeLength.Statement .swapAtHl := rfl
theorem EncodeLength.swapA : EncodeLength.Statement .swapA := rfl
theorem EncodeLength.srlB : EncodeLength.Statement .srlB := rfl
theorem EncodeLength.srlC : EncodeLength.Statement .srlC := rfl
theorem EncodeLength.srlD : EncodeLength.Statement .srlD := rfl
theorem EncodeLength.srlE : EncodeLength.Statement .srlE := rfl
theorem EncodeLength.srlH : EncodeLength.Statement .srlH := rfl
theorem EncodeLength.srlL : EncodeLength.Statement .srlL := rfl
theorem EncodeLength.srlAtHl : EncodeLength.Statement .srlAtHl := rfl
theorem EncodeLength.srlA : EncodeLength.Statement .srlA := rfl
theorem EncodeLength.bit0B : EncodeLength.Statement .bit0B := rfl
theorem EncodeLength.bit0C : EncodeLength.Statement .bit0C := rfl
theorem EncodeLength.bit0D : EncodeLength.Statement .bit0D := rfl
theorem EncodeLength.bit0E : EncodeLength.Statement .bit0E := rfl
theorem EncodeLength.bit0H : EncodeLength.Statement .bit0H := rfl
theorem EncodeLength.bit0L : EncodeLength.Statement .bit0L := rfl
theorem EncodeLength.bit0AtHl : EncodeLength.Statement .bit0AtHl := rfl
theorem EncodeLength.bit0A : EncodeLength.Statement .bit0A := rfl
theorem EncodeLength.bit1B : EncodeLength.Statement .bit1B := rfl
theorem EncodeLength.bit1C : EncodeLength.Statement .bit1C := rfl
theorem EncodeLength.bit1D : EncodeLength.Statement .bit1D := rfl
theorem EncodeLength.bit1E : EncodeLength.Statement .bit1E := rfl
theorem EncodeLength.bit1H : EncodeLength.Statement .bit1H := rfl
theorem EncodeLength.bit1L : EncodeLength.Statement .bit1L := rfl
theorem EncodeLength.bit1AtHl : EncodeLength.Statement .bit1AtHl := rfl
theorem EncodeLength.bit1A : EncodeLength.Statement .bit1A := rfl
theorem EncodeLength.bit2B : EncodeLength.Statement .bit2B := rfl
theorem EncodeLength.bit2C : EncodeLength.Statement .bit2C := rfl
theorem EncodeLength.bit2D : EncodeLength.Statement .bit2D := rfl
theorem EncodeLength.bit2E : EncodeLength.Statement .bit2E := rfl
theorem EncodeLength.bit2H : EncodeLength.Statement .bit2H := rfl
theorem EncodeLength.bit2L : EncodeLength.Statement .bit2L := rfl
theorem EncodeLength.bit2AtHl : EncodeLength.Statement .bit2AtHl := rfl
theorem EncodeLength.bit2A : EncodeLength.Statement .bit2A := rfl
theorem EncodeLength.bit3B : EncodeLength.Statement .bit3B := rfl
theorem EncodeLength.bit3C : EncodeLength.Statement .bit3C := rfl
theorem EncodeLength.bit3D : EncodeLength.Statement .bit3D := rfl
theorem EncodeLength.bit3E : EncodeLength.Statement .bit3E := rfl
theorem EncodeLength.bit3H : EncodeLength.Statement .bit3H := rfl
theorem EncodeLength.bit3L : EncodeLength.Statement .bit3L := rfl
theorem EncodeLength.bit3AtHl : EncodeLength.Statement .bit3AtHl := rfl
theorem EncodeLength.bit3A : EncodeLength.Statement .bit3A := rfl
theorem EncodeLength.bit4B : EncodeLength.Statement .bit4B := rfl
theorem EncodeLength.bit4C : EncodeLength.Statement .bit4C := rfl
theorem EncodeLength.bit4D : EncodeLength.Statement .bit4D := rfl
theorem EncodeLength.bit4E : EncodeLength.Statement .bit4E := rfl
theorem EncodeLength.bit4H : EncodeLength.Statement .bit4H := rfl
theorem EncodeLength.bit4L : EncodeLength.Statement .bit4L := rfl
theorem EncodeLength.bit4AtHl : EncodeLength.Statement .bit4AtHl := rfl
theorem EncodeLength.bit4A : EncodeLength.Statement .bit4A := rfl
theorem EncodeLength.bit5B : EncodeLength.Statement .bit5B := rfl
theorem EncodeLength.bit5C : EncodeLength.Statement .bit5C := rfl
theorem EncodeLength.bit5D : EncodeLength.Statement .bit5D := rfl
theorem EncodeLength.bit5E : EncodeLength.Statement .bit5E := rfl
theorem EncodeLength.bit5H : EncodeLength.Statement .bit5H := rfl
theorem EncodeLength.bit5L : EncodeLength.Statement .bit5L := rfl
theorem EncodeLength.bit5AtHl : EncodeLength.Statement .bit5AtHl := rfl
theorem EncodeLength.bit5A : EncodeLength.Statement .bit5A := rfl
theorem EncodeLength.bit6B : EncodeLength.Statement .bit6B := rfl
theorem EncodeLength.bit6C : EncodeLength.Statement .bit6C := rfl
theorem EncodeLength.bit6D : EncodeLength.Statement .bit6D := rfl
theorem EncodeLength.bit6E : EncodeLength.Statement .bit6E := rfl
theorem EncodeLength.bit6H : EncodeLength.Statement .bit6H := rfl
theorem EncodeLength.bit6L : EncodeLength.Statement .bit6L := rfl
theorem EncodeLength.bit6AtHl : EncodeLength.Statement .bit6AtHl := rfl
theorem EncodeLength.bit6A : EncodeLength.Statement .bit6A := rfl
theorem EncodeLength.bit7B : EncodeLength.Statement .bit7B := rfl
theorem EncodeLength.bit7C : EncodeLength.Statement .bit7C := rfl
theorem EncodeLength.bit7D : EncodeLength.Statement .bit7D := rfl
theorem EncodeLength.bit7E : EncodeLength.Statement .bit7E := rfl
theorem EncodeLength.bit7H : EncodeLength.Statement .bit7H := rfl
theorem EncodeLength.bit7L : EncodeLength.Statement .bit7L := rfl
theorem EncodeLength.bit7AtHl : EncodeLength.Statement .bit7AtHl := rfl
theorem EncodeLength.bit7A : EncodeLength.Statement .bit7A := rfl
theorem EncodeLength.res0B : EncodeLength.Statement .res0B := rfl
theorem EncodeLength.res0C : EncodeLength.Statement .res0C := rfl
theorem EncodeLength.res0D : EncodeLength.Statement .res0D := rfl
theorem EncodeLength.res0E : EncodeLength.Statement .res0E := rfl
theorem EncodeLength.res0H : EncodeLength.Statement .res0H := rfl
theorem EncodeLength.res0L : EncodeLength.Statement .res0L := rfl
theorem EncodeLength.res0AtHl : EncodeLength.Statement .res0AtHl := rfl
theorem EncodeLength.res0A : EncodeLength.Statement .res0A := rfl
theorem EncodeLength.res1B : EncodeLength.Statement .res1B := rfl
theorem EncodeLength.res1C : EncodeLength.Statement .res1C := rfl
theorem EncodeLength.res1D : EncodeLength.Statement .res1D := rfl
theorem EncodeLength.res1E : EncodeLength.Statement .res1E := rfl
theorem EncodeLength.res1H : EncodeLength.Statement .res1H := rfl
theorem EncodeLength.res1L : EncodeLength.Statement .res1L := rfl
theorem EncodeLength.res1AtHl : EncodeLength.Statement .res1AtHl := rfl
theorem EncodeLength.res1A : EncodeLength.Statement .res1A := rfl
theorem EncodeLength.res2B : EncodeLength.Statement .res2B := rfl
theorem EncodeLength.res2C : EncodeLength.Statement .res2C := rfl
theorem EncodeLength.res2D : EncodeLength.Statement .res2D := rfl
theorem EncodeLength.res2E : EncodeLength.Statement .res2E := rfl
theorem EncodeLength.res2H : EncodeLength.Statement .res2H := rfl
theorem EncodeLength.res2L : EncodeLength.Statement .res2L := rfl
theorem EncodeLength.res2AtHl : EncodeLength.Statement .res2AtHl := rfl
theorem EncodeLength.res2A : EncodeLength.Statement .res2A := rfl
theorem EncodeLength.res3B : EncodeLength.Statement .res3B := rfl
theorem EncodeLength.res3C : EncodeLength.Statement .res3C := rfl
theorem EncodeLength.res3D : EncodeLength.Statement .res3D := rfl
theorem EncodeLength.res3E : EncodeLength.Statement .res3E := rfl
theorem EncodeLength.res3H : EncodeLength.Statement .res3H := rfl
theorem EncodeLength.res3L : EncodeLength.Statement .res3L := rfl
theorem EncodeLength.res3AtHl : EncodeLength.Statement .res3AtHl := rfl
theorem EncodeLength.res3A : EncodeLength.Statement .res3A := rfl
theorem EncodeLength.res4B : EncodeLength.Statement .res4B := rfl
theorem EncodeLength.res4C : EncodeLength.Statement .res4C := rfl
theorem EncodeLength.res4D : EncodeLength.Statement .res4D := rfl
theorem EncodeLength.res4E : EncodeLength.Statement .res4E := rfl
theorem EncodeLength.res4H : EncodeLength.Statement .res4H := rfl
theorem EncodeLength.res4L : EncodeLength.Statement .res4L := rfl
theorem EncodeLength.res4AtHl : EncodeLength.Statement .res4AtHl := rfl
theorem EncodeLength.res4A : EncodeLength.Statement .res4A := rfl
theorem EncodeLength.res5B : EncodeLength.Statement .res5B := rfl
theorem EncodeLength.res5C : EncodeLength.Statement .res5C := rfl
theorem EncodeLength.res5D : EncodeLength.Statement .res5D := rfl
theorem EncodeLength.res5E : EncodeLength.Statement .res5E := rfl
theorem EncodeLength.res5H : EncodeLength.Statement .res5H := rfl
theorem EncodeLength.res5L : EncodeLength.Statement .res5L := rfl
theorem EncodeLength.res5AtHl : EncodeLength.Statement .res5AtHl := rfl
theorem EncodeLength.res5A : EncodeLength.Statement .res5A := rfl
theorem EncodeLength.res6B : EncodeLength.Statement .res6B := rfl
theorem EncodeLength.res6C : EncodeLength.Statement .res6C := rfl
theorem EncodeLength.res6D : EncodeLength.Statement .res6D := rfl
theorem EncodeLength.res6E : EncodeLength.Statement .res6E := rfl
theorem EncodeLength.res6H : EncodeLength.Statement .res6H := rfl
theorem EncodeLength.res6L : EncodeLength.Statement .res6L := rfl
theorem EncodeLength.res6AtHl : EncodeLength.Statement .res6AtHl := rfl
theorem EncodeLength.res6A : EncodeLength.Statement .res6A := rfl
theorem EncodeLength.res7B : EncodeLength.Statement .res7B := rfl
theorem EncodeLength.res7C : EncodeLength.Statement .res7C := rfl
theorem EncodeLength.res7D : EncodeLength.Statement .res7D := rfl
theorem EncodeLength.res7E : EncodeLength.Statement .res7E := rfl
theorem EncodeLength.res7H : EncodeLength.Statement .res7H := rfl
theorem EncodeLength.res7L : EncodeLength.Statement .res7L := rfl
theorem EncodeLength.res7AtHl : EncodeLength.Statement .res7AtHl := rfl
theorem EncodeLength.res7A : EncodeLength.Statement .res7A := rfl
theorem EncodeLength.set0B : EncodeLength.Statement .set0B := rfl
theorem EncodeLength.set0C : EncodeLength.Statement .set0C := rfl
theorem EncodeLength.set0D : EncodeLength.Statement .set0D := rfl
theorem EncodeLength.set0E : EncodeLength.Statement .set0E := rfl
theorem EncodeLength.set0H : EncodeLength.Statement .set0H := rfl
theorem EncodeLength.set0L : EncodeLength.Statement .set0L := rfl
theorem EncodeLength.set0AtHl : EncodeLength.Statement .set0AtHl := rfl
theorem EncodeLength.set0A : EncodeLength.Statement .set0A := rfl
theorem EncodeLength.set1B : EncodeLength.Statement .set1B := rfl
theorem EncodeLength.set1C : EncodeLength.Statement .set1C := rfl
theorem EncodeLength.set1D : EncodeLength.Statement .set1D := rfl
theorem EncodeLength.set1E : EncodeLength.Statement .set1E := rfl
theorem EncodeLength.set1H : EncodeLength.Statement .set1H := rfl
theorem EncodeLength.set1L : EncodeLength.Statement .set1L := rfl
theorem EncodeLength.set1AtHl : EncodeLength.Statement .set1AtHl := rfl
theorem EncodeLength.set1A : EncodeLength.Statement .set1A := rfl
theorem EncodeLength.set2B : EncodeLength.Statement .set2B := rfl
theorem EncodeLength.set2C : EncodeLength.Statement .set2C := rfl
theorem EncodeLength.set2D : EncodeLength.Statement .set2D := rfl
theorem EncodeLength.set2E : EncodeLength.Statement .set2E := rfl
theorem EncodeLength.set2H : EncodeLength.Statement .set2H := rfl
theorem EncodeLength.set2L : EncodeLength.Statement .set2L := rfl
theorem EncodeLength.set2AtHl : EncodeLength.Statement .set2AtHl := rfl
theorem EncodeLength.set2A : EncodeLength.Statement .set2A := rfl
theorem EncodeLength.set3B : EncodeLength.Statement .set3B := rfl
theorem EncodeLength.set3C : EncodeLength.Statement .set3C := rfl
theorem EncodeLength.set3D : EncodeLength.Statement .set3D := rfl
theorem EncodeLength.set3E : EncodeLength.Statement .set3E := rfl
theorem EncodeLength.set3H : EncodeLength.Statement .set3H := rfl
theorem EncodeLength.set3L : EncodeLength.Statement .set3L := rfl
theorem EncodeLength.set3AtHl : EncodeLength.Statement .set3AtHl := rfl
theorem EncodeLength.set3A : EncodeLength.Statement .set3A := rfl
theorem EncodeLength.set4B : EncodeLength.Statement .set4B := rfl
theorem EncodeLength.set4C : EncodeLength.Statement .set4C := rfl
theorem EncodeLength.set4D : EncodeLength.Statement .set4D := rfl
theorem EncodeLength.set4E : EncodeLength.Statement .set4E := rfl
theorem EncodeLength.set4H : EncodeLength.Statement .set4H := rfl
theorem EncodeLength.set4L : EncodeLength.Statement .set4L := rfl
theorem EncodeLength.set4AtHl : EncodeLength.Statement .set4AtHl := rfl
theorem EncodeLength.set4A : EncodeLength.Statement .set4A := rfl
theorem EncodeLength.set5B : EncodeLength.Statement .set5B := rfl
theorem EncodeLength.set5C : EncodeLength.Statement .set5C := rfl
theorem EncodeLength.set5D : EncodeLength.Statement .set5D := rfl
theorem EncodeLength.set5E : EncodeLength.Statement .set5E := rfl
theorem EncodeLength.set5H : EncodeLength.Statement .set5H := rfl
theorem EncodeLength.set5L : EncodeLength.Statement .set5L := rfl
theorem EncodeLength.set5AtHl : EncodeLength.Statement .set5AtHl := rfl
theorem EncodeLength.set5A : EncodeLength.Statement .set5A := rfl
theorem EncodeLength.set6B : EncodeLength.Statement .set6B := rfl
theorem EncodeLength.set6C : EncodeLength.Statement .set6C := rfl
theorem EncodeLength.set6D : EncodeLength.Statement .set6D := rfl
theorem EncodeLength.set6E : EncodeLength.Statement .set6E := rfl
theorem EncodeLength.set6H : EncodeLength.Statement .set6H := rfl
theorem EncodeLength.set6L : EncodeLength.Statement .set6L := rfl
theorem EncodeLength.set6AtHl : EncodeLength.Statement .set6AtHl := rfl
theorem EncodeLength.set6A : EncodeLength.Statement .set6A := rfl
theorem EncodeLength.set7B : EncodeLength.Statement .set7B := rfl
theorem EncodeLength.set7C : EncodeLength.Statement .set7C := rfl
theorem EncodeLength.set7D : EncodeLength.Statement .set7D := rfl
theorem EncodeLength.set7E : EncodeLength.Statement .set7E := rfl
theorem EncodeLength.set7H : EncodeLength.Statement .set7H := rfl
theorem EncodeLength.set7L : EncodeLength.Statement .set7L := rfl
theorem EncodeLength.set7AtHl : EncodeLength.Statement .set7AtHl := rfl
theorem EncodeLength.set7A : EncodeLength.Statement .set7A := rfl

end Sys2Proof.Laws
end

