-- ==== Sys2Proof/Laws/Rules.lean ====
section
/-! SUPPORT. What the rules of the instructions keep: one fact per shared rule, then the form of every arm of `exec`. -/

namespace Sys2Proof.Machine

/-- The number that two bytes make. -/
theorem wordOf_toNat (lo hi : Byte) : (wordOf lo hi).toNat = lo.toNat + 256 * hi.toNat := by
  have h := BitVec.toNat_append hi lo
  rw [Nat.shiftLeft_eq, Nat.mul_comm, ← Nat.two_pow_add_eq_or_of_lt lo.isLt] at h
  exact h.trans (by omega)

theorem loByte_toNat (w : Word) : (loByte w).toNat = w.toNat % 256 := by
  simp [loByte]

theorem hiByte_toNat (w : Word) : (hiByte w).toNat = w.toNat / 256 := by
  have := w.isLt
  simp only [hiByte, BitVec.extractLsb'_toNat, Nat.shiftRight_eq_div_pow]
  omega

/-- A register write keeps the image (R83, R87). -/
@[simp] theorem Cart.writeRom_image (cart : Cart) (p : Word) (v : Byte) : (cart.writeRom p v).image = cart.image := by cases cart <;> rfl
@[simp] theorem Cart.writeRom_banked (cart : Cart) (p : Word) (v : Byte) : (cart.writeRom p v).banked = cart.banked := by cases cart <;> rfl
@[simp] theorem Cart.writeRam_image (cfg : Config) (cart : Cart) (p : Word) (v : Byte) : (cart.writeRam cfg p v).image = cart.image := by
  unfold Cart.writeRam
  (repeat' split) <;> rfl
@[simp] theorem Cart.writeRam_banked (cfg : Config) (cart : Cart) (p : Word) (v : Byte) : (cart.writeRam cfg p v).banked = cart.banked := by
  unfold Cart.writeRam
  (repeat' split) <;> rfl

/-- What the rule of every instruction keeps, from the state `s` to the state `t`. -/
structure Keeps (s t : State) : Prop where
  fault : t.fault = s.fault
  lastDecoded : t.lastDecoded = s.lastDecoded
  cfg : t.cfg = s.cfg
  image : t.cart.image = s.cart.image
  banked : t.cart.banked = s.cart.banked
  memory : s.memoryWf → t.memoryWf
  flags : s.flagsClean → t.flagsClean

theorem Keeps.refl (s : State) : Keeps s s := ⟨rfl, rfl, rfl, rfl, rfl, id, id⟩

theorem Keeps.trans {s t u : State} (h : Keeps s t) (k : Keeps t u) : Keeps s u :=
  ⟨k.fault.trans h.fault, k.lastDecoded.trans h.lastDecoded, k.cfg.trans h.cfg, k.image.trans h.image, k.banked.trans h.banked,
    fun m => k.memory (h.memory m), fun f => k.flags (h.flags f)⟩

/-- A change of registers alone. -/
theorem Keeps.registers {s t : State} (ha : ∀ st, t.array st = s.array st) (hc : t.cart = s.cart) (hg : t.cfg = s.cfg) (hf : t.fault = s.fault)
    (hl : t.lastDecoded = s.lastDecoded) (hx : s.flagsClean → t.flagsClean) : Keeps s t :=
  ⟨hf, hl, hg, by rw [hc], by rw [hc], fun m => State.memoryWf_congr m ha hc hg, hx⟩

theorem State.setFlags_keeps (s : State) (z n h c : Option Bool) : Keeps s (s.setFlags z n h c) :=
  .registers (fun _ => rfl) rfl rfl rfl rfl fun _ => s.setFlags_clean z n h c

theorem State.setHl_keeps (s : State) (v : Word) : Keeps s (s.setHl v) := .registers (fun _ => rfl) rfl rfl rfl rfl id

theorem State.write8_keeps (s : State) (p : Word) (v : Byte) : Keeps s (s.write8 p v) where
  fault := s.write8_fault p v
  lastDecoded := s.write8_lastDecoded p v
  cfg := s.write8_cfg p v
  image := by unfold State.write8; split <;> simp
  banked := by unfold State.write8; split <;> simp
  memory := State.memoryWf_write8 p v
  flags h := by unfold State.flagsClean; rw [State.write8_f]; exact h

theorem State.write16_keeps (s : State) (p : Word) (v : Word) : Keeps s (s.write16 p v) :=
  (s.write8_keeps p _).trans (State.write8_keeps _ _ _)

theorem State.put8_keeps (s : State) (r : R8) (v : Byte) : Keeps s (s.put8 r v) := by
  cases r <;> first
    | exact s.write8_keeps s.hl v
    | exact .registers (fun _ => rfl) rfl rfl rfl rfl id

theorem State.put16_keeps (s : State) (r : R16) (v : Word) : Keeps s (s.put16 r v) := by
  cases r <;> exact .registers (fun _ => rfl) rfl rfl rfl rfl id

theorem State.putPair_keeps (s : State) (q : Pair) (v : Word) : Keeps s (s.putPair q v) := by
  cases q <;> first
    | exact .registers (fun _ => rfl) rfl rfl rfl rfl id
    | exact .registers (fun _ => rfl) rfl rfl rfl rfl fun _ => State.setF_clean _ _

theorem State.jump_keeps (s : State) (t : Word) : Keeps s (s.jump t) := .registers (fun _ => rfl) rfl rfl rfl rfl id
theorem State.drop16_keeps (s : State) : Keeps s s.drop16 := .registers (fun _ => rfl) rfl rfl rfl rfl id
theorem State.setIme_keeps (s : State) (v : Bool) : Keeps s (s.setIme v) := .registers (fun _ => rfl) rfl rfl rfl rfl id
theorem State.setRun_keeps (s : State) (r : RunState) : Keeps s (s.setRun r) := .registers (fun _ => rfl) rfl rfl rfl rfl id
theorem State.push16_keeps (s : State) (v : Word) : Keeps s (s.push16 v) :=
  Keeps.trans (t := { s with sp := s.sp - 2 }) (.registers (fun _ => rfl) rfl rfl rfl rfl id) (State.write16_keeps _ _ _)
theorem State.afterAccess_keeps (s : State) (m : MemOperand) : Keeps s (s.afterAccess m) := by
  cases m <;> exact .registers (fun _ => rfl) rfl rfl rfl rfl id

theorem State.addA_keeps (s : State) (v : Byte) (cin : Bool) : Keeps s (s.addA v cin) :=
  .registers (fun _ => rfl) rfl rfl rfl rfl fun _ => State.setFlags_clean _ _ _ _ _
theorem State.subA_keeps (s : State) (v : Byte) (cin : Bool) : Keeps s (s.subA v cin) :=
  .registers (fun _ => rfl) rfl rfl rfl rfl fun _ => State.setFlags_clean _ _ _ _ _
theorem State.cpA_keeps (s : State) (v : Byte) : Keeps s (s.cpA v) := s.setFlags_keeps _ _ _ _
theorem State.logicA_keeps (s : State) (op : LogicOp) (v : Byte) : Keeps s (s.logicA op v) :=
  .registers (fun _ => rfl) rfl rfl rfl rfl fun _ => State.setFlags_clean _ _ _ _ _
theorem State.inc8_keeps (s : State) (r : R8) : Keeps s (s.inc8 r) := (s.put8_keeps r _).trans (State.setFlags_keeps _ _ _ _ _)
theorem State.dec8_keeps (s : State) (r : R8) : Keeps s (s.dec8 r) := (s.put8_keeps r _).trans (State.setFlags_keeps _ _ _ _ _)
theorem State.complementA_keeps (s : State) : Keeps s s.complementA :=
  .registers (fun _ => rfl) rfl rfl rfl rfl fun _ => State.setFlags_clean _ _ _ _ _
theorem State.complementCarry_keeps (s : State) : Keeps s s.complementCarry := s.setFlags_keeps _ _ _ _
theorem State.setCarry_keeps (s : State) : Keeps s s.setCarry := s.setFlags_keeps _ _ _ _
theorem State.decimalAdjust_keeps (s : State) : Keeps s s.decimalAdjust :=
  .registers (fun _ => rfl) rfl rfl rfl rfl fun _ => State.setFlags_clean _ _ _ _ _
theorem State.addHl_keeps (s : State) (r : R16) : Keeps s (s.addHl r) := (s.setHl_keeps _).trans (State.setFlags_keeps _ _ _ _ _)
theorem State.addToSp_keeps (s : State) (e8 : Byte) : Keeps s (s.addToSp e8) :=
  .registers (fun _ => rfl) rfl rfl rfl rfl fun _ => State.setFlags_clean _ _ _ _ _
theorem State.inc16_keeps (s : State) (r : R16) : Keeps s (s.inc16 r) := s.put16_keeps r _
theorem State.dec16_keeps (s : State) (r : R16) : Keeps s (s.dec16 r) := s.put16_keeps r _
theorem State.ld8_keeps (s : State) (r r' : R8) : Keeps s (s.ld8 r r') := s.put8_keeps r _
theorem State.ld8Imm_keeps (s : State) (r : R8) (v : Byte) : Keeps s (s.ld8Imm r v) := s.put8_keeps r _
theorem State.loadA_keeps (s : State) (m : MemOperand) : Keeps s (s.loadA m) :=
  Keeps.trans (t := { s with a := s.read8 (s.address m) }) (.registers (fun _ => rfl) rfl rfl rfl rfl id) (State.afterAccess_keeps _ m)
theorem State.storeA_keeps (s : State) (m : MemOperand) : Keeps s (s.storeA m) := (s.write8_keeps _ _).trans (State.afterAccess_keeps _ m)
theorem State.ld16Imm_keeps (s : State) (r : R16) (v : Word) : Keeps s (s.ld16Imm r v) := s.put16_keeps r _
theorem State.storeSp_keeps (s : State) (p : Word) : Keeps s (s.storeSp p) := s.write16_keeps p _
theorem State.ldSpFromHl_keeps (s : State) : Keeps s s.ldSpFromHl := .registers (fun _ => rfl) rfl rfl rfl rfl id
theorem State.ldHlFromSp_keeps (s : State) (e8 : Byte) : Keeps s (s.ldHlFromSp e8) := (s.setHl_keeps _).trans (State.setFlags_keeps _ _ _ _ _)
theorem State.jumpRel_keeps (s : State) (e8 : Byte) : Keeps s (s.jumpRel e8) := s.jump_keeps _
theorem State.call_keeps (s : State) (t : Word) : Keeps s (s.call t) := (s.push16_keeps _).trans (State.jump_keeps _ _)
theorem State.ret_keeps (s : State) : Keeps s s.ret := s.drop16_keeps.trans (State.jump_keeps _ _)
theorem State.retEnable_keeps (s : State) : Keeps s s.retEnable := s.ret_keeps.trans (State.setIme_keeps _ true)
theorem State.onCond_keeps (s : State) (cc : Cond) (rule : State → State) (h : Keeps s (rule s)) : Keeps s (s.onCond cc rule) := by
  unfold State.onCond
  split
  · exact h
  · exact .refl s
theorem State.pushPair_keeps (s : State) (q : Pair) : Keeps s (s.pushPair q) := s.push16_keeps _
theorem State.popPair_keeps (s : State) (q : Pair) : Keeps s (s.popPair q) := s.drop16_keeps.trans (State.putPair_keeps _ q _)
theorem State.rotateA_keeps (s : State) (op : ShiftOp) : Keeps s (s.rotateA op) :=
  .registers (fun _ => rfl) rfl rfl rfl rfl fun _ => State.setFlags_clean _ _ _ _ _
theorem State.shiftOperand_keeps (s : State) (op : ShiftOp) (r : R8) : Keeps s (s.shiftOperand op r) :=
  (s.put8_keeps r _).trans (State.setFlags_keeps _ _ _ _ _)
theorem State.testBit_keeps (s : State) (b : Nat) (r : R8) : Keeps s (s.testBit b r) := s.setFlags_keeps _ _ _ _
theorem State.resetBit_keeps (s : State) (b : Nat) (r : R8) : Keeps s (s.resetBit b r) := s.put8_keeps r _
theorem State.setBit_keeps (s : State) (b : Nat) (r : R8) : Keeps s (s.setBit b r) := s.put8_keeps r _
theorem State.prefixedRule_keeps (s : State) (op2 : Byte) : Keeps s (s.prefixedRule op2) := by
  unfold State.prefixedRule
  dsimp only
  split
  · exact s.shiftOperand_keeps _ _
  · exact s.testBit_keeps _ _
  · exact s.resetBit_keeps _ _
  · exact s.setBit_keeps _ _

/-- The form of every arm of `exec`: an instruction performs a rule that keeps what `Keeps` says; the row PREFIX CB performs its prefixed instruction. -/
theorem exec_performs (i : Instr) : ∃ (j : Instr) (rule : State → State), (∀ s, exec i s = perform j rule s) ∧ (∀ s, Keeps s (rule s)) ∧
    (j = i ∨ ∃ op2, i = .prefixCb op2 ∧ j = decodePrefixed op2) :=
  match i with
  | .prefixCb op2 => ⟨decodePrefixed op2, fun t => t.prefixedRule op2, fun _ => rfl, fun t => t.prefixedRule_keeps op2, .inr ⟨op2, rfl, rfl⟩⟩
  | .nop => ⟨.nop, fun t => t, fun _ => rfl, fun t => .refl t, .inl rfl⟩
  | .ldBcN16 n16 => ⟨(.ldBcN16 n16), fun t => t.ld16Imm .bc n16, fun _ => rfl, fun t => t.ld16Imm_keeps _ _, .inl rfl⟩
  | .ldAtBcA => ⟨.ldAtBcA, fun t => t.storeA .atBc, fun _ => rfl, fun t => t.storeA_keeps _, .inl rfl⟩
  | .incBc => ⟨.incBc, fun t => t.inc16 .bc, fun _ => rfl, fun t => t.inc16_keeps _, .inl rfl⟩
  | .incB => ⟨.incB, fun t => t.inc8 .b, fun _ => rfl, fun t => t.inc8_keeps _, .inl rfl⟩
  | .decB => ⟨.decB, fun t => t.dec8 .b, fun _ => rfl, fun t => t.dec8_keeps _, .inl rfl⟩
  | .ldBN8 n8 => ⟨(.ldBN8 n8), fun t => t.ld8Imm .b n8, fun _ => rfl, fun t => t.ld8Imm_keeps _ _, .inl rfl⟩
  | .rlca => ⟨.rlca, fun t => t.rotateA .rlc, fun _ => rfl, fun t => t.rotateA_keeps _, .inl rfl⟩
  | .ldAtA16Sp a16 => ⟨(.ldAtA16Sp a16), fun t => t.storeSp a16, fun _ => rfl, fun t => t.storeSp_keeps _, .inl rfl⟩
  | .addHlBc => ⟨.addHlBc, fun t => t.addHl .bc, fun _ => rfl, fun t => t.addHl_keeps _, .inl rfl⟩
  | .ldAAtBc => ⟨.ldAAtBc, fun t => t.loadA .atBc, fun _ => rfl, fun t => t.loadA_keeps _, .inl rfl⟩
  | .decBc => ⟨.decBc, fun t => t.dec16 .bc, fun _ => rfl, fun t => t.dec16_keeps _, .inl rfl⟩
  | .incC => ⟨.incC, fun t => t.inc8 .c, fun _ => rfl, fun t => t.inc8_keeps _, .inl rfl⟩
  | .decC => ⟨.decC, fun t => t.dec8 .c, fun _ => rfl, fun t => t.dec8_keeps _, .inl rfl⟩
  | .ldCN8 n8 => ⟨(.ldCN8 n8), fun t => t.ld8Imm .c n8, fun _ => rfl, fun t => t.ld8Imm_keeps _ _, .inl rfl⟩
  | .rrca => ⟨.rrca, fun t => t.rotateA .rrc, fun _ => rfl, fun t => t.rotateA_keeps _, .inl rfl⟩
  | .stop ignored => ⟨(.stop ignored), fun t => t.setRun .stopped, fun _ => rfl, fun t => t.setRun_keeps _, .inl rfl⟩
  | .ldDeN16 n16 => ⟨(.ldDeN16 n16), fun t => t.ld16Imm .de n16, fun _ => rfl, fun t => t.ld16Imm_keeps _ _, .inl rfl⟩
  | .ldAtDeA => ⟨.ldAtDeA, fun t => t.storeA .atDe, fun _ => rfl, fun t => t.storeA_keeps _, .inl rfl⟩
  | .incDe => ⟨.incDe, fun t => t.inc16 .de, fun _ => rfl, fun t => t.inc16_keeps _, .inl rfl⟩
  | .incD => ⟨.incD, fun t => t.inc8 .d, fun _ => rfl, fun t => t.inc8_keeps _, .inl rfl⟩
  | .decD => ⟨.decD, fun t => t.dec8 .d, fun _ => rfl, fun t => t.dec8_keeps _, .inl rfl⟩
  | .ldDN8 n8 => ⟨(.ldDN8 n8), fun t => t.ld8Imm .d n8, fun _ => rfl, fun t => t.ld8Imm_keeps _ _, .inl rfl⟩
  | .rla => ⟨.rla, fun t => t.rotateA .rl, fun _ => rfl, fun t => t.rotateA_keeps _, .inl rfl⟩
  | .jrE8 e8 => ⟨(.jrE8 e8), fun t => t.jumpRel e8, fun _ => rfl, fun t => t.jumpRel_keeps _, .inl rfl⟩
  | .addHlDe => ⟨.addHlDe, fun t => t.addHl .de, fun _ => rfl, fun t => t.addHl_keeps _, .inl rfl⟩
  | .ldAAtDe => ⟨.ldAAtDe, fun t => t.loadA .atDe, fun _ => rfl, fun t => t.loadA_keeps _, .inl rfl⟩
  | .decDe => ⟨.decDe, fun t => t.dec16 .de, fun _ => rfl, fun t => t.dec16_keeps _, .inl rfl⟩
  | .incE => ⟨.incE, fun t => t.inc8 .e, fun _ => rfl, fun t => t.inc8_keeps _, .inl rfl⟩
  | .decE => ⟨.decE, fun t => t.dec8 .e, fun _ => rfl, fun t => t.dec8_keeps _, .inl rfl⟩
  | .ldEN8 n8 => ⟨(.ldEN8 n8), fun t => t.ld8Imm .e n8, fun _ => rfl, fun t => t.ld8Imm_keeps _ _, .inl rfl⟩
  | .rra => ⟨.rra, fun t => t.rotateA .rr, fun _ => rfl, fun t => t.rotateA_keeps _, .inl rfl⟩
  | .jrNzE8 e8 => ⟨(.jrNzE8 e8), fun t => t.onCond .nz fun u => u.jumpRel e8, fun _ => rfl, fun t => t.onCond_keeps .nz _ (t.jumpRel_keeps _), .inl rfl⟩
  | .ldHlN16 n16 => ⟨(.ldHlN16 n16), fun t => t.ld16Imm .hl n16, fun _ => rfl, fun t => t.ld16Imm_keeps _ _, .inl rfl⟩
  | .ldAtHlIncA => ⟨.ldAtHlIncA, fun t => t.storeA .atHlInc, fun _ => rfl, fun t => t.storeA_keeps _, .inl rfl⟩
  | .incHl => ⟨.incHl, fun t => t.inc16 .hl, fun _ => rfl, fun t => t.inc16_keeps _, .inl rfl⟩
  | .incH => ⟨.incH, fun t => t.inc8 .h, fun _ => rfl, fun t => t.inc8_keeps _, .inl rfl⟩
  | .decH => ⟨.decH, fun t => t.dec8 .h, fun _ => rfl, fun t => t.dec8_keeps _, .inl rfl⟩
  | .ldHN8 n8 => ⟨(.ldHN8 n8), fun t => t.ld8Imm .h n8, fun _ => rfl, fun t => t.ld8Imm_keeps _ _, .inl rfl⟩
  | .daa => ⟨.daa, fun t => t.decimalAdjust, fun _ => rfl, fun t => t.decimalAdjust_keeps, .inl rfl⟩
  | .jrZE8 e8 => ⟨(.jrZE8 e8), fun t => t.onCond .z fun u => u.jumpRel e8, fun _ => rfl, fun t => t.onCond_keeps .z _ (t.jumpRel_keeps _), .inl rfl⟩
  | .addHlHl => ⟨.addHlHl, fun t => t.addHl .hl, fun _ => rfl, fun t => t.addHl_keeps _, .inl rfl⟩
  | .ldAAtHlInc => ⟨.ldAAtHlInc, fun t => t.loadA .atHlInc, fun _ => rfl, fun t => t.loadA_keeps _, .inl rfl⟩
  | .decHl => ⟨.decHl, fun t => t.dec16 .hl, fun _ => rfl, fun t => t.dec16_keeps _, .inl rfl⟩
  | .incL => ⟨.incL, fun t => t.inc8 .l, fun _ => rfl, fun t => t.inc8_keeps _, .inl rfl⟩
  | .decL => ⟨.decL, fun t => t.dec8 .l, fun _ => rfl, fun t => t.dec8_keeps _, .inl rfl⟩
  | .ldLN8 n8 => ⟨(.ldLN8 n8), fun t => t.ld8Imm .l n8, fun _ => rfl, fun t => t.ld8Imm_keeps _ _, .inl rfl⟩
  | .cpl => ⟨.cpl, fun t => t.complementA, fun _ => rfl, fun t => t.complementA_keeps, .inl rfl⟩
  | .jrNcE8 e8 => ⟨(.jrNcE8 e8), fun t => t.onCond .nc fun u => u.jumpRel e8, fun _ => rfl, fun t => t.onCond_keeps .nc _ (t.jumpRel_keeps _), .inl rfl⟩
  | .ldSpN16 n16 => ⟨(.ldSpN16 n16), fun t => t.ld16Imm .sp n16, fun _ => rfl, fun t => t.ld16Imm_keeps _ _, .inl rfl⟩
  | .ldAtHlDecA => ⟨.ldAtHlDecA, fun t => t.storeA .atHlDec, fun _ => rfl, fun t => t.storeA_keeps _, .inl rfl⟩
  | .incSp => ⟨.incSp, fun t => t.inc16 .sp, fun _ => rfl, fun t => t.inc16_keeps _, .inl rfl⟩
  | .incAtHl => ⟨.incAtHl, fun t => t.inc8 .atHl, fun _ => rfl, fun t => t.inc8_keeps _, .inl rfl⟩
  | .decAtHl => ⟨.decAtHl, fun t => t.dec8 .atHl, fun _ => rfl, fun t => t.dec8_keeps _, .inl rfl⟩
  | .ldAtHlN8 n8 => ⟨(.ldAtHlN8 n8), fun t => t.ld8Imm .atHl n8, fun _ => rfl, fun t => t.ld8Imm_keeps _ _, .inl rfl⟩
  | .scf => ⟨.scf, fun t => t.setCarry, fun _ => rfl, fun t => t.setCarry_keeps, .inl rfl⟩
  | .jrCE8 e8 => ⟨(.jrCE8 e8), fun t => t.onCond .c fun u => u.jumpRel e8, fun _ => rfl, fun t => t.onCond_keeps .c _ (t.jumpRel_keeps _), .inl rfl⟩
  | .addHlSp => ⟨.addHlSp, fun t => t.addHl .sp, fun _ => rfl, fun t => t.addHl_keeps _, .inl rfl⟩
  | .ldAAtHlDec => ⟨.ldAAtHlDec, fun t => t.loadA .atHlDec, fun _ => rfl, fun t => t.loadA_keeps _, .inl rfl⟩
  | .decSp => ⟨.decSp, fun t => t.dec16 .sp, fun _ => rfl, fun t => t.dec16_keeps _, .inl rfl⟩
  | .incA => ⟨.incA, fun t => t.inc8 .a, fun _ => rfl, fun t => t.inc8_keeps _, .inl rfl⟩
  | .decA => ⟨.decA, fun t => t.dec8 .a, fun _ => rfl, fun t => t.dec8_keeps _, .inl rfl⟩
  | .ldAN8 n8 => ⟨(.ldAN8 n8), fun t => t.ld8Imm .a n8, fun _ => rfl, fun t => t.ld8Imm_keeps _ _, .inl rfl⟩
  | .ccf => ⟨.ccf, fun t => t.complementCarry, fun _ => rfl, fun t => t.complementCarry_keeps, .inl rfl⟩
  | .ldBB => ⟨.ldBB, fun t => t.ld8 .b .b, fun _ => rfl, fun t => t.ld8_keeps _ _, .inl rfl⟩
  | .ldBC => ⟨.ldBC, fun t => t.ld8 .b .c, fun _ => rfl, fun t => t.ld8_keeps _ _, .inl rfl⟩
  | .ldBD => ⟨.ldBD, fun t => t.ld8 .b .d, fun _ => rfl, fun t => t.ld8_keeps _ _, .inl rfl⟩
  | .ldBE => ⟨.ldBE, fun t => t.ld8 .b .e, fun _ => rfl, fun t => t.ld8_keeps _ _, .inl rfl⟩
  | .ldBH => ⟨.ldBH, fun t => t.ld8 .b .h, fun _ => rfl, fun t => t.ld8_keeps _ _, .inl rfl⟩
  | .ldBL => ⟨.ldBL, fun t => t.ld8 .b .l, fun _ => rfl, fun t => t.ld8_keeps _ _, .inl rfl⟩
  | .ldBAtHl => ⟨.ldBAtHl, fun t => t.ld8 .b .atHl, fun _ => rfl, fun t => t.ld8_keeps _ _, .inl rfl⟩
  | .ldBA => ⟨.ldBA, fun t => t.ld8 .b .a, fun _ => rfl, fun t => t.ld8_keeps _ _, .inl rfl⟩
  | .ldCB => ⟨.ldCB, fun t => t.ld8 .c .b, fun _ => rfl, fun t => t.ld8_keeps _ _, .inl rfl⟩
  | .ldCC => ⟨.ldCC, fun t => t.ld8 .c .c, fun _ => rfl, fun t => t.ld8_keeps _ _, .inl rfl⟩
  | .ldCD => ⟨.ldCD, fun t => t.ld8 .c .d, fun _ => rfl, fun t => t.ld8_keeps _ _, .inl rfl⟩
  | .ldCE => ⟨.ldCE, fun t => t.ld8 .c .e, fun _ => rfl, fun t => t.ld8_keeps _ _, .inl rfl⟩
  | .ldCH => ⟨.ldCH, fun t => t.ld8 .c .h, fun _ => rfl, fun t => t.ld8_keeps _ _, .inl rfl⟩
  | .ldCL => ⟨.ldCL, fun t => t.ld8 .c .l, fun _ => rfl, fun t => t.ld8_keeps _ _, .inl rfl⟩
  | .ldCAtHl => ⟨.ldCAtHl, fun t => t.ld8 .c .atHl, fun _ => rfl, fun t => t.ld8_keeps _ _, .inl rfl⟩
  | .ldCA => ⟨.ldCA, fun t => t.ld8 .c .a, fun _ => rfl, fun t => t.ld8_keeps _ _, .inl rfl⟩
  | .ldDB => ⟨.ldDB, fun t => t.ld8 .d .b, fun _ => rfl, fun t => t.ld8_keeps _ _, .inl rfl⟩
  | .ldDC => ⟨.ldDC, fun t => t.ld8 .d .c, fun _ => rfl, fun t => t.ld8_keeps _ _, .inl rfl⟩
  | .ldDD => ⟨.ldDD, fun t => t.ld8 .d .d, fun _ => rfl, fun t => t.ld8_keeps _ _, .inl rfl⟩
  | .ldDE => ⟨.ldDE, fun t => t.ld8 .d .e, fun _ => rfl, fun t => t.ld8_keeps _ _, .inl rfl⟩
  | .ldDH => ⟨.ldDH, fun t => t.ld8 .d .h, fun _ => rfl, fun t => t.ld8_keeps _ _, .inl rfl⟩
  | .ldDL => ⟨.ldDL, fun t => t.ld8 .d .l, fun _ => rfl, fun t => t.ld8_keeps _ _, .inl rfl⟩
  | .ldDAtHl => ⟨.ldDAtHl, fun t => t.ld8 .d .atHl, fun _ => rfl, fun t => t.ld8_keeps _ _, .inl rfl⟩
  | .ldDA => ⟨.ldDA, fun t => t.ld8 .d .a, fun _ => rfl, fun t => t.ld8_keeps _ _, .inl rfl⟩
  | .ldEB => ⟨.ldEB, fun t => t.ld8 .e .b, fun _ => rfl, fun t => t.ld8_keeps _ _, .inl rfl⟩
  | .ldEC => ⟨.ldEC, fun t => t.ld8 .e .c, fun _ => rfl, fun t => t.ld8_keeps _ _, .inl rfl⟩
  | .ldED => ⟨.ldED, fun t => t.ld8 .e .d, fun _ => rfl, fun t => t.ld8_keeps _ _, .inl rfl⟩
  | .ldEE => ⟨.ldEE, fun t => t.ld8 .e .e, fun _ => rfl, fun t => t.ld8_keeps _ _, .inl rfl⟩
  | .ldEH => ⟨.ldEH, fun t => t.ld8 .e .h, fun _ => rfl, fun t => t.ld8_keeps _ _, .inl rfl⟩
  | .ldEL => ⟨.ldEL, fun t => t.ld8 .e .l, fun _ => rfl, fun t => t.ld8_keeps _ _, .inl rfl⟩
  | .ldEAtHl => ⟨.ldEAtHl, fun t => t.ld8 .e .atHl, fun _ => rfl, fun t => t.ld8_keeps _ _, .inl rfl⟩
  | .ldEA => ⟨.ldEA, fun t => t.ld8 .e .a, fun _ => rfl, fun t => t.ld8_keeps _ _, .inl rfl⟩
  | .ldHB => ⟨.ldHB, fun t => t.ld8 .h .b, fun _ => rfl, fun t => t.ld8_keeps _ _, .inl rfl⟩
  | .ldHC => ⟨.ldHC, fun t => t.ld8 .h .c, fun _ => rfl, fun t => t.ld8_keeps _ _, .inl rfl⟩
  | .ldHD => ⟨.ldHD, fun t => t.ld8 .h .d, fun _ => rfl, fun t => t.ld8_keeps _ _, .inl rfl⟩
  | .ldHE => ⟨.ldHE, fun t => t.ld8 .h .e, fun _ => rfl, fun t => t.ld8_keeps _ _, .inl rfl⟩
  | .ldHH => ⟨.ldHH, fun t => t.ld8 .h .h, fun _ => rfl, fun t => t.ld8_keeps _ _, .inl rfl⟩
  | .ldHL => ⟨.ldHL, fun t => t.ld8 .h .l, fun _ => rfl, fun t => t.ld8_keeps _ _, .inl rfl⟩
  | .ldHAtHl => ⟨.ldHAtHl, fun t => t.ld8 .h .atHl, fun _ => rfl, fun t => t.ld8_keeps _ _, .inl rfl⟩
  | .ldHA => ⟨.ldHA, fun t => t.ld8 .h .a, fun _ => rfl, fun t => t.ld8_keeps _ _, .inl rfl⟩
  | .ldLB => ⟨.ldLB, fun t => t.ld8 .l .b, fun _ => rfl, fun t => t.ld8_keeps _ _, .inl rfl⟩
  | .ldLC => ⟨.ldLC, fun t => t.ld8 .l .c, fun _ => rfl, fun t => t.ld8_keeps _ _, .inl rfl⟩
  | .ldLD => ⟨.ldLD, fun t => t.ld8 .l .d, fun _ => rfl, fun t => t.ld8_keeps _ _, .inl rfl⟩
  | .ldLE => ⟨.ldLE, fun t => t.ld8 .l .e, fun _ => rfl, fun t => t.ld8_keeps _ _, .inl rfl⟩
  | .ldLH => ⟨.ldLH, fun t => t.ld8 .l .h, fun _ => rfl, fun t => t.ld8_keeps _ _, .inl rfl⟩
  | .ldLL => ⟨.ldLL, fun t => t.ld8 .l .l, fun _ => rfl, fun t => t.ld8_keeps _ _, .inl rfl⟩
  | .ldLAtHl => ⟨.ldLAtHl, fun t => t.ld8 .l .atHl, fun _ => rfl, fun t => t.ld8_keeps _ _, .inl rfl⟩
  | .ldLA => ⟨.ldLA, fun t => t.ld8 .l .a, fun _ => rfl, fun t => t.ld8_keeps _ _, .inl rfl⟩
  | .ldAtHlB => ⟨.ldAtHlB, fun t => t.ld8 .atHl .b, fun _ => rfl, fun t => t.ld8_keeps _ _, .inl rfl⟩
  | .ldAtHlC => ⟨.ldAtHlC, fun t => t.ld8 .atHl .c, fun _ => rfl, fun t => t.ld8_keeps _ _, .inl rfl⟩
  | .ldAtHlD => ⟨.ldAtHlD, fun t => t.ld8 .atHl .d, fun _ => rfl, fun t => t.ld8_keeps _ _, .inl rfl⟩
  | .ldAtHlE => ⟨.ldAtHlE, fun t => t.ld8 .atHl .e, fun _ => rfl, fun t => t.ld8_keeps _ _, .inl rfl⟩
  | .ldAtHlH => ⟨.ldAtHlH, fun t => t.ld8 .atHl .h, fun _ => rfl, fun t => t.ld8_keeps _ _, .inl rfl⟩
  | .ldAtHlL => ⟨.ldAtHlL, fun t => t.ld8 .atHl .l, fun _ => rfl, fun t => t.ld8_keeps _ _, .inl rfl⟩
  | .halt => ⟨.halt, fun t => t.setRun .halted, fun _ => rfl, fun t => t.setRun_keeps _, .inl rfl⟩
  | .ldAtHlA => ⟨.ldAtHlA, fun t => t.ld8 .atHl .a, fun _ => rfl, fun t => t.ld8_keeps _ _, .inl rfl⟩
  | .ldAB => ⟨.ldAB, fun t => t.ld8 .a .b, fun _ => rfl, fun t => t.ld8_keeps _ _, .inl rfl⟩
  | .ldAC => ⟨.ldAC, fun t => t.ld8 .a .c, fun _ => rfl, fun t => t.ld8_keeps _ _, .inl rfl⟩
  | .ldAD => ⟨.ldAD, fun t => t.ld8 .a .d, fun _ => rfl, fun t => t.ld8_keeps _ _, .inl rfl⟩
  | .ldAE => ⟨.ldAE, fun t => t.ld8 .a .e, fun _ => rfl, fun t => t.ld8_keeps _ _, .inl rfl⟩
  | .ldAH => ⟨.ldAH, fun t => t.ld8 .a .h, fun _ => rfl, fun t => t.ld8_keeps _ _, .inl rfl⟩
  | .ldAL => ⟨.ldAL, fun t => t.ld8 .a .l, fun _ => rfl, fun t => t.ld8_keeps _ _, .inl rfl⟩
  | .ldAAtHl => ⟨.ldAAtHl, fun t => t.ld8 .a .atHl, fun _ => rfl, fun t => t.ld8_keeps _ _, .inl rfl⟩
  | .ldAA => ⟨.ldAA, fun t => t.ld8 .a .a, fun _ => rfl, fun t => t.ld8_keeps _ _, .inl rfl⟩
  | .addAB => ⟨.addAB, fun t => t.addA (t.get8 .b) false, fun _ => rfl, fun t => t.addA_keeps _ _, .inl rfl⟩
  | .addAC => ⟨.addAC, fun t => t.addA (t.get8 .c) false, fun _ => rfl, fun t => t.addA_keeps _ _, .inl rfl⟩
  | .addAD => ⟨.addAD, fun t => t.addA (t.get8 .d) false, fun _ => rfl, fun t => t.addA_keeps _ _, .inl rfl⟩
  | .addAE => ⟨.addAE, fun t => t.addA (t.get8 .e) false, fun _ => rfl, fun t => t.addA_keeps _ _, .inl rfl⟩
  | .addAH => ⟨.addAH, fun t => t.addA (t.get8 .h) false, fun _ => rfl, fun t => t.addA_keeps _ _, .inl rfl⟩
  | .addAL => ⟨.addAL, fun t => t.addA (t.get8 .l) false, fun _ => rfl, fun t => t.addA_keeps _ _, .inl rfl⟩
  | .addAAtHl => ⟨.addAAtHl, fun t => t.addA (t.get8 .atHl) false, fun _ => rfl, fun t => t.addA_keeps _ _, .inl rfl⟩
  | .addAA => ⟨.addAA, fun t => t.addA (t.get8 .a) false, fun _ => rfl, fun t => t.addA_keeps _ _, .inl rfl⟩
  | .adcAB => ⟨.adcAB, fun t => t.addA (t.get8 .b) t.flagC, fun _ => rfl, fun t => t.addA_keeps _ _, .inl rfl⟩
  | .adcAC => ⟨.adcAC, fun t => t.addA (t.get8 .c) t.flagC, fun _ => rfl, fun t => t.addA_keeps _ _, .inl rfl⟩
  | .adcAD => ⟨.adcAD, fun t => t.addA (t.get8 .d) t.flagC, fun _ => rfl, fun t => t.addA_keeps _ _, .inl rfl⟩
  | .adcAE => ⟨.adcAE, fun t => t.addA (t.get8 .e) t.flagC, fun _ => rfl, fun t => t.addA_keeps _ _, .inl rfl⟩
  | .adcAH => ⟨.adcAH, fun t => t.addA (t.get8 .h) t.flagC, fun _ => rfl, fun t => t.addA_keeps _ _, .inl rfl⟩
  | .adcAL => ⟨.adcAL, fun t => t.addA (t.get8 .l) t.flagC, fun _ => rfl, fun t => t.addA_keeps _ _, .inl rfl⟩
  | .adcAAtHl => ⟨.adcAAtHl, fun t => t.addA (t.get8 .atHl) t.flagC, fun _ => rfl, fun t => t.addA_keeps _ _, .inl rfl⟩
  | .adcAA => ⟨.adcAA, fun t => t.addA (t.get8 .a) t.flagC, fun _ => rfl, fun t => t.addA_keeps _ _, .inl rfl⟩
  | .subAB => ⟨.subAB, fun t => t.subA (t.get8 .b) false, fun _ => rfl, fun t => t.subA_keeps _ _, .inl rfl⟩
  | .subAC => ⟨.subAC, fun t => t.subA (t.get8 .c) false, fun _ => rfl, fun t => t.subA_keeps _ _, .inl rfl⟩
  | .subAD => ⟨.subAD, fun t => t.subA (t.get8 .d) false, fun _ => rfl, fun t => t.subA_keeps _ _, .inl rfl⟩
  | .subAE => ⟨.subAE, fun t => t.subA (t.get8 .e) false, fun _ => rfl, fun t => t.subA_keeps _ _, .inl rfl⟩
  | .subAH => ⟨.subAH, fun t => t.subA (t.get8 .h) false, fun _ => rfl, fun t => t.subA_keeps _ _, .inl rfl⟩
  | .subAL => ⟨.subAL, fun t => t.subA (t.get8 .l) false, fun _ => rfl, fun t => t.subA_keeps _ _, .inl rfl⟩
  | .subAAtHl => ⟨.subAAtHl, fun t => t.subA (t.get8 .atHl) false, fun _ => rfl, fun t => t.subA_keeps _ _, .inl rfl⟩
  | .subAA => ⟨.subAA, fun t => t.subA (t.get8 .a) false, fun _ => rfl, fun t => t.subA_keeps _ _, .inl rfl⟩
  | .sbcAB => ⟨.sbcAB, fun t => t.subA (t.get8 .b) t.flagC, fun _ => rfl, fun t => t.subA_keeps _ _, .inl rfl⟩
  | .sbcAC => ⟨.sbcAC, fun t => t.subA (t.get8 .c) t.flagC, fun _ => rfl, fun t => t.subA_keeps _ _, .inl rfl⟩
  | .sbcAD => ⟨.sbcAD, fun t => t.subA (t.get8 .d) t.flagC, fun _ => rfl, fun t => t.subA_keeps _ _, .inl rfl⟩
  | .sbcAE => ⟨.sbcAE, fun t => t.subA (t.get8 .e) t.flagC, fun _ => rfl, fun t => t.subA_keeps _ _, .inl rfl⟩
  | .sbcAH => ⟨.sbcAH, fun t => t.subA (t.get8 .h) t.flagC, fun _ => rfl, fun t => t.subA_keeps _ _, .inl rfl⟩
  | .sbcAL => ⟨.sbcAL, fun t => t.subA (t.get8 .l) t.flagC, fun _ => rfl, fun t => t.subA_keeps _ _, .inl rfl⟩
  | .sbcAAtHl => ⟨.sbcAAtHl, fun t => t.subA (t.get8 .atHl) t.flagC, fun _ => rfl, fun t => t.subA_keeps _ _, .inl rfl⟩
  | .sbcAA => ⟨.sbcAA, fun t => t.subA (t.get8 .a) t.flagC, fun _ => rfl, fun t => t.subA_keeps _ _, .inl rfl⟩
  | .andAB => ⟨.andAB, fun t => t.logicA .and (t.get8 .b), fun _ => rfl, fun t => t.logicA_keeps _ _, .inl rfl⟩
  | .andAC => ⟨.andAC, fun t => t.logicA .and (t.get8 .c), fun _ => rfl, fun t => t.logicA_keeps _ _, .inl rfl⟩
  | .andAD => ⟨.andAD, fun t => t.logicA .and (t.get8 .d), fun _ => rfl, fun t => t.logicA_keeps _ _, .inl rfl⟩
  | .andAE => ⟨.andAE, fun t => t.logicA .and (t.get8 .e), fun _ => rfl, fun t => t.logicA_keeps _ _, .inl rfl⟩
  | .andAH => ⟨.andAH, fun t => t.logicA .and (t.get8 .h), fun _ => rfl, fun t => t.logicA_keeps _ _, .inl rfl⟩
  | .andAL => ⟨.andAL, fun t => t.logicA .and (t.get8 .l), fun _ => rfl, fun t => t.logicA_keeps _ _, .inl rfl⟩
  | .andAAtHl => ⟨.andAAtHl, fun t => t.logicA .and (t.get8 .atHl), fun _ => rfl, fun t => t.logicA_keeps _ _, .inl rfl⟩
  | .andAA => ⟨.andAA, fun t => t.logicA .and (t.get8 .a), fun _ => rfl, fun t => t.logicA_keeps _ _, .inl rfl⟩
  | .xorAB => ⟨.xorAB, fun t => t.logicA .xor (t.get8 .b), fun _ => rfl, fun t => t.logicA_keeps _ _, .inl rfl⟩
  | .xorAC => ⟨.xorAC, fun t => t.logicA .xor (t.get8 .c), fun _ => rfl, fun t => t.logicA_keeps _ _, .inl rfl⟩
  | .xorAD => ⟨.xorAD, fun t => t.logicA .xor (t.get8 .d), fun _ => rfl, fun t => t.logicA_keeps _ _, .inl rfl⟩
  | .xorAE => ⟨.xorAE, fun t => t.logicA .xor (t.get8 .e), fun _ => rfl, fun t => t.logicA_keeps _ _, .inl rfl⟩
  | .xorAH => ⟨.xorAH, fun t => t.logicA .xor (t.get8 .h), fun _ => rfl, fun t => t.logicA_keeps _ _, .inl rfl⟩
  | .xorAL => ⟨.xorAL, fun t => t.logicA .xor (t.get8 .l), fun _ => rfl, fun t => t.logicA_keeps _ _, .inl rfl⟩
  | .xorAAtHl => ⟨.xorAAtHl, fun t => t.logicA .xor (t.get8 .atHl), fun _ => rfl, fun t => t.logicA_keeps _ _, .inl rfl⟩
  | .xorAA => ⟨.xorAA, fun t => t.logicA .xor (t.get8 .a), fun _ => rfl, fun t => t.logicA_keeps _ _, .inl rfl⟩
  | .orAB => ⟨.orAB, fun t => t.logicA .or (t.get8 .b), fun _ => rfl, fun t => t.logicA_keeps _ _, .inl rfl⟩
  | .orAC => ⟨.orAC, fun t => t.logicA .or (t.get8 .c), fun _ => rfl, fun t => t.logicA_keeps _ _, .inl rfl⟩
  | .orAD => ⟨.orAD, fun t => t.logicA .or (t.get8 .d), fun _ => rfl, fun t => t.logicA_keeps _ _, .inl rfl⟩
  | .orAE => ⟨.orAE, fun t => t.logicA .or (t.get8 .e), fun _ => rfl, fun t => t.logicA_keeps _ _, .inl rfl⟩
  | .orAH => ⟨.orAH, fun t => t.logicA .or (t.get8 .h), fun _ => rfl, fun t => t.logicA_keeps _ _, .inl rfl⟩
  | .orAL => ⟨.orAL, fun t => t.logicA .or (t.get8 .l), fun _ => rfl, fun t => t.logicA_keeps _ _, .inl rfl⟩
  | .orAAtHl => ⟨.orAAtHl, fun t => t.logicA .or (t.get8 .atHl), fun _ => rfl, fun t => t.logicA_keeps _ _, .inl rfl⟩
  | .orAA => ⟨.orAA, fun t => t.logicA .or (t.get8 .a), fun _ => rfl, fun t => t.logicA_keeps _ _, .inl rfl⟩
  | .cpAB => ⟨.cpAB, fun t => t.cpA (t.get8 .b), fun _ => rfl, fun t => t.cpA_keeps _, .inl rfl⟩
  | .cpAC => ⟨.cpAC, fun t => t.cpA (t.get8 .c), fun _ => rfl, fun t => t.cpA_keeps _, .inl rfl⟩
  | .cpAD => ⟨.cpAD, fun t => t.cpA (t.get8 .d), fun _ => rfl, fun t => t.cpA_keeps _, .inl rfl⟩
  | .cpAE => ⟨.cpAE, fun t => t.cpA (t.get8 .e), fun _ => rfl, fun t => t.cpA_keeps _, .inl rfl⟩
  | .cpAH => ⟨.cpAH, fun t => t.cpA (t.get8 .h), fun _ => rfl, fun t => t.cpA_keeps _, .inl rfl⟩
  | .cpAL => ⟨.cpAL, fun t => t.cpA (t.get8 .l), fun _ => rfl, fun t => t.cpA_keeps _, .inl rfl⟩
  | .cpAAtHl => ⟨.cpAAtHl, fun t => t.cpA (t.get8 .atHl), fun _ => rfl, fun t => t.cpA_keeps _, .inl rfl⟩
  | .cpAA => ⟨.cpAA, fun t => t.cpA (t.get8 .a), fun _ => rfl, fun t => t.cpA_keeps _, .inl rfl⟩
  | .retNz => ⟨.retNz, fun t => t.onCond .nz fun u => u.ret, fun _ => rfl, fun t => t.onCond_keeps .nz _ (t.ret_keeps), .inl rfl⟩
  | .popBc => ⟨.popBc, fun t => t.popPair .bc, fun _ => rfl, fun t => t.popPair_keeps _, .inl rfl⟩
  | .jpNzA16 a16 => ⟨(.jpNzA16 a16), fun t => t.onCond .nz fun u => u.jump a16, fun _ => rfl, fun t => t.onCond_keeps .nz _ (t.jump_keeps _), .inl rfl⟩
  | .jpA16 a16 => ⟨(.jpA16 a16), fun t => t.jump a16, fun _ => rfl, fun t => t.jump_keeps _, .inl rfl⟩
  | .callNzA16 a16 => ⟨(.callNzA16 a16), fun t => t.onCond .nz fun u => u.call a16, fun _ => rfl, fun t => t.onCond_keeps .nz _ (t.call_keeps _), .inl rfl⟩
  | .pushBc => ⟨.pushBc, fun t => t.pushPair .bc, fun _ => rfl, fun t => t.pushPair_keeps _, .inl rfl⟩
  | .addAN8 n8 => ⟨(.addAN8 n8), fun t => t.addA n8 false, fun _ => rfl, fun t => t.addA_keeps _ _, .inl rfl⟩
  | .rst00 => ⟨.rst00, fun t => t.call 0x0000, fun _ => rfl, fun t => t.call_keeps _, .inl rfl⟩
  | .retZ => ⟨.retZ, fun t => t.onCond .z fun u => u.ret, fun _ => rfl, fun t => t.onCond_keeps .z _ (t.ret_keeps), .inl rfl⟩
  | .ret => ⟨.ret, fun t => t.ret, fun _ => rfl, fun t => t.ret_keeps, .inl rfl⟩
  | .jpZA16 a16 => ⟨(.jpZA16 a16), fun t => t.onCond .z fun u => u.jump a16, fun _ => rfl, fun t => t.onCond_keeps .z _ (t.jump_keeps _), .inl rfl⟩
  | .callZA16 a16 => ⟨(.callZA16 a16), fun t => t.onCond .z fun u => u.call a16, fun _ => rfl, fun t => t.onCond_keeps .z _ (t.call_keeps _), .inl rfl⟩
  | .callA16 a16 => ⟨(.callA16 a16), fun t => t.call a16, fun _ => rfl, fun t => t.call_keeps _, .inl rfl⟩
  | .adcAN8 n8 => ⟨(.adcAN8 n8), fun t => t.addA n8 t.flagC, fun _ => rfl, fun t => t.addA_keeps _ _, .inl rfl⟩
  | .rst08 => ⟨.rst08, fun t => t.call 0x0008, fun _ => rfl, fun t => t.call_keeps _, .inl rfl⟩
  | .retNc => ⟨.retNc, fun t => t.onCond .nc fun u => u.ret, fun _ => rfl, fun t => t.onCond_keeps .nc _ (t.ret_keeps), .inl rfl⟩
  | .popDe => ⟨.popDe, fun t => t.popPair .de, fun _ => rfl, fun t => t.popPair_keeps _, .inl rfl⟩
  | .jpNcA16 a16 => ⟨(.jpNcA16 a16), fun t => t.onCond .nc fun u => u.jump a16, fun _ => rfl, fun t => t.onCond_keeps .nc _ (t.jump_keeps _), .inl rfl⟩
  | .illegal op => ⟨(.illegal op), fun t => t, fun _ => rfl, fun t => .refl t, .inl rfl⟩
  | .callNcA16 a16 => ⟨(.callNcA16 a16), fun t => t.onCond .nc fun u => u.call a16, fun _ => rfl, fun t => t.onCond_keeps .nc _ (t.call_keeps _), .inl rfl⟩
  | .pushDe => ⟨.pushDe, fun t => t.pushPair .de, fun _ => rfl, fun t => t.pushPair_keeps _, .inl rfl⟩
  | .subAN8 n8 => ⟨(.subAN8 n8), fun t => t.subA n8 false, fun _ => rfl, fun t => t.subA_keeps _ _, .inl rfl⟩
  | .rst10 => ⟨.rst10, fun t => t.call 0x0010, fun _ => rfl, fun t => t.call_keeps _, .inl rfl⟩
  | .retC => ⟨.retC, fun t => t.onCond .c fun u => u.ret, fun _ => rfl, fun t => t.onCond_keeps .c _ (t.ret_keeps), .inl rfl⟩
  | .reti => ⟨.reti, fun t => t.retEnable, fun _ => rfl, fun t => t.retEnable_keeps, .inl rfl⟩
  | .jpCA16 a16 => ⟨(.jpCA16 a16), fun t => t.onCond .c fun u => u.jump a16, fun _ => rfl, fun t => t.onCond_keeps .c _ (t.jump_keeps _), .inl rfl⟩
  | .callCA16 a16 => ⟨(.callCA16 a16), fun t => t.onCond .c fun u => u.call a16, fun _ => rfl, fun t => t.onCond_keeps .c _ (t.call_keeps _), .inl rfl⟩
  | .sbcAN8 n8 => ⟨(.sbcAN8 n8), fun t => t.subA n8 t.flagC, fun _ => rfl, fun t => t.subA_keeps _ _, .inl rfl⟩
  | .rst18 => ⟨.rst18, fun t => t.call 0x0018, fun _ => rfl, fun t => t.call_keeps _, .inl rfl⟩
  | .ldhAtA8A a8 => ⟨(.ldhAtA8A a8), fun t => t.storeA (.atA8 a8), fun _ => rfl, fun t => t.storeA_keeps _, .inl rfl⟩
  | .popHl => ⟨.popHl, fun t => t.popPair .hl, fun _ => rfl, fun t => t.popPair_keeps _, .inl rfl⟩
  | .ldAtCA => ⟨.ldAtCA, fun t => t.storeA .atC, fun _ => rfl, fun t => t.storeA_keeps _, .inl rfl⟩
  | .pushHl => ⟨.pushHl, fun t => t.pushPair .hl, fun _ => rfl, fun t => t.pushPair_keeps _, .inl rfl⟩
  | .andAN8 n8 => ⟨(.andAN8 n8), fun t => t.logicA .and n8, fun _ => rfl, fun t => t.logicA_keeps _ _, .inl rfl⟩
  | .rst20 => ⟨.rst20, fun t => t.call 0x0020, fun _ => rfl, fun t => t.call_keeps _, .inl rfl⟩
  | .addSpE8 e8 => ⟨(.addSpE8 e8), fun t => t.addToSp e8, fun _ => rfl, fun t => t.addToSp_keeps _, .inl rfl⟩
  | .jpHl => ⟨.jpHl, fun t => t.jump t.hl, fun _ => rfl, fun t => t.jump_keeps _, .inl rfl⟩
  | .ldAtA16A a16 => ⟨(.ldAtA16A a16), fun t => t.storeA (.atA16 a16), fun _ => rfl, fun t => t.storeA_keeps _, .inl rfl⟩
  | .xorAN8 n8 => ⟨(.xorAN8 n8), fun t => t.logicA .xor n8, fun _ => rfl, fun t => t.logicA_keeps _ _, .inl rfl⟩
  | .rst28 => ⟨.rst28, fun t => t.call 0x0028, fun _ => rfl, fun t => t.call_keeps _, .inl rfl⟩
  | .ldhAAtA8 a8 => ⟨(.ldhAAtA8 a8), fun t => t.loadA (.atA8 a8), fun _ => rfl, fun t => t.loadA_keeps _, .inl rfl⟩
  | .popAf => ⟨.popAf, fun t => t.popPair .af, fun _ => rfl, fun t => t.popPair_keeps _, .inl rfl⟩
  | .ldAAtC => ⟨.ldAAtC, fun t => t.loadA .atC, fun _ => rfl, fun t => t.loadA_keeps _, .inl rfl⟩
  | .di => ⟨.di, fun t => t.setIme false, fun _ => rfl, fun t => t.setIme_keeps _, .inl rfl⟩
  | .pushAf => ⟨.pushAf, fun t => t.pushPair .af, fun _ => rfl, fun t => t.pushPair_keeps _, .inl rfl⟩
  | .orAN8 n8 => ⟨(.orAN8 n8), fun t => t.logicA .or n8, fun _ => rfl, fun t => t.logicA_keeps _ _, .inl rfl⟩
  | .rst30 => ⟨.rst30, fun t => t.call 0x0030, fun _ => rfl, fun t => t.call_keeps _, .inl rfl⟩
  | .ldHlSpE8 e8 => ⟨(.ldHlSpE8 e8), fun t => t.ldHlFromSp e8, fun _ => rfl, fun t => t.ldHlFromSp_keeps _, .inl rfl⟩
  | .ldSpHl => ⟨.ldSpHl, fun t => t.ldSpFromHl, fun _ => rfl, fun t => t.ldSpFromHl_keeps, .inl rfl⟩
  | .ldAAtA16 a16 => ⟨(.ldAAtA16 a16), fun t => t.loadA (.atA16 a16), fun _ => rfl, fun t => t.loadA_keeps _, .inl rfl⟩
  | .ei => ⟨.ei, fun t => t.setIme true, fun _ => rfl, fun t => t.setIme_keeps _, .inl rfl⟩
  | .cpAN8 n8 => ⟨(.cpAN8 n8), fun t => t.cpA n8, fun _ => rfl, fun t => t.cpA_keeps _, .inl rfl⟩
  | .rst38 => ⟨.rst38, fun t => t.call 0x0038, fun _ => rfl, fun t => t.call_keeps _, .inl rfl⟩
  | .rlcB => ⟨.rlcB, fun t => t.shiftOperand .rlc .b, fun _ => rfl, fun t => t.shiftOperand_keeps _ _, .inl rfl⟩
  | .rlcC => ⟨.rlcC, fun t => t.shiftOperand .rlc .c, fun _ => rfl, fun t => t.shiftOperand_keeps _ _, .inl rfl⟩
  | .rlcD => ⟨.rlcD, fun t => t.shiftOperand .rlc .d, fun _ => rfl, fun t => t.shiftOperand_keeps _ _, .inl rfl⟩
  | .rlcE => ⟨.rlcE, fun t => t.shiftOperand .rlc .e, fun _ => rfl, fun t => t.shiftOperand_keeps _ _, .inl rfl⟩
  | .rlcH => ⟨.rlcH, fun t => t.shiftOperand .rlc .h, fun _ => rfl, fun t => t.shiftOperand_keeps _ _, .inl rfl⟩
  | .rlcL => ⟨.rlcL, fun t => t.shiftOperand .rlc .l, fun _ => rfl, fun t => t.shiftOperand_keeps _ _, .inl rfl⟩
  | .rlcAtHl => ⟨.rlcAtHl, fun t => t.shiftOperand .rlc .atHl, fun _ => rfl, fun t => t.shiftOperand_keeps _ _, .inl rfl⟩
  | .rlcA => ⟨.rlcA, fun t => t.shiftOperand .rlc .a, fun _ => rfl, fun t => t.shiftOperand_keeps _ _, .inl rfl⟩
  | .rrcB => ⟨.rrcB, fun t => t.shiftOperand .rrc .b, fun _ => rfl, fun t => t.shiftOperand_keeps _ _, .inl rfl⟩
  | .rrcC => ⟨.rrcC, fun t => t.shiftOperand .rrc .c, fun _ => rfl, fun t => t.shiftOperand_keeps _ _, .inl rfl⟩
  | .rrcD => ⟨.rrcD, fun t => t.shiftOperand .rrc .d, fun _ => rfl, fun t => t.shiftOperand_keeps _ _, .inl rfl⟩
  | .rrcE => ⟨.rrcE, fun t => t.shiftOperand .rrc .e, fun _ => rfl, fun t => t.shiftOperand_keeps _ _, .inl rfl⟩
  | .rrcH => ⟨.rrcH, fun t => t.shiftOperand .rrc .h, fun _ => rfl, fun t => t.shiftOperand_keeps _ _, .inl rfl⟩
  | .rrcL => ⟨.rrcL, fun t => t.shiftOperand .rrc .l, fun _ => rfl, fun t => t.shiftOperand_keeps _ _, .inl rfl⟩
  | .rrcAtHl => ⟨.rrcAtHl, fun t => t.shiftOperand .rrc .atHl, fun _ => rfl, fun t => t.shiftOperand_keeps _ _, .inl rfl⟩
  | .rrcA => ⟨.rrcA, fun t => t.shiftOperand .rrc .a, fun _ => rfl, fun t => t.shiftOperand_keeps _ _, .inl rfl⟩
  | .rlB => ⟨.rlB, fun t => t.shiftOperand .rl .b, fun _ => rfl, fun t => t.shiftOperand_keeps _ _, .inl rfl⟩
  | .rlC => ⟨.rlC, fun t => t.shiftOperand .rl .c, fun _ => rfl, fun t => t.shiftOperand_keeps _ _, .inl rfl⟩
  | .rlD => ⟨.rlD, fun t => t.shiftOperand .rl .d, fun _ => rfl, fun t => t.shiftOperand_keeps _ _, .inl rfl⟩
  | .rlE => ⟨.rlE, fun t => t.shiftOperand .rl .e, fun _ => rfl, fun t => t.shiftOperand_keeps _ _, .inl rfl⟩
  | .rlH => ⟨.rlH, fun t => t.shiftOperand .rl .h, fun _ => rfl, fun t => t.shiftOperand_keeps _ _, .inl rfl⟩
  | .rlL => ⟨.rlL, fun t => t.shiftOperand .rl .l, fun _ => rfl, fun t => t.shiftOperand_keeps _ _, .inl rfl⟩
  | .rlAtHl => ⟨.rlAtHl, fun t => t.shiftOperand .rl .atHl, fun _ => rfl, fun t => t.shiftOperand_keeps _ _, .inl rfl⟩
  | .rlA => ⟨.rlA, fun t => t.shiftOperand .rl .a, fun _ => rfl, fun t => t.shiftOperand_keeps _ _, .inl rfl⟩
  | .rrB => ⟨.rrB, fun t => t.shiftOperand .rr .b, fun _ => rfl, fun t => t.shiftOperand_keeps _ _, .inl rfl⟩
  | .rrC => ⟨.rrC, fun t => t.shiftOperand .rr .c, fun _ => rfl, fun t => t.shiftOperand_keeps _ _, .inl rfl⟩
  | .rrD => ⟨.rrD, fun t => t.shiftOperand .rr .d, fun _ => rfl, fun t => t.shiftOperand_keeps _ _, .inl rfl⟩
  | .rrE => ⟨.rrE, fun t => t.shiftOperand .rr .e, fun _ => rfl, fun t => t.shiftOperand_keeps _ _, .inl rfl⟩
  | .rrH => ⟨.rrH, fun t => t.shiftOperand .rr .h, fun _ => rfl, fun t => t.shiftOperand_keeps _ _, .inl rfl⟩
  | .rrL => ⟨.rrL, fun t => t.shiftOperand .rr .l, fun _ => rfl, fun t => t.shiftOperand_keeps _ _, .inl rfl⟩
  | .rrAtHl => ⟨.rrAtHl, fun t => t.shiftOperand .rr .atHl, fun _ => rfl, fun t => t.shiftOperand_keeps _ _, .inl rfl⟩
  | .rrA => ⟨.rrA, fun t => t.shiftOperand .rr .a, fun _ => rfl, fun t => t.shiftOperand_keeps _ _, .inl rfl⟩
  | .slaB => ⟨.slaB, fun t => t.shiftOperand .sla .b, fun _ => rfl, fun t => t.shiftOperand_keeps _ _, .inl rfl⟩
  | .slaC => ⟨.slaC, fun t => t.shiftOperand .sla .c, fun _ => rfl, fun t => t.shiftOperand_keeps _ _, .inl rfl⟩
  | .slaD => ⟨.slaD, fun t => t.shiftOperand .sla .d, fun _ => rfl, fun t => t.shiftOperand_keeps _ _, .inl rfl⟩
  | .slaE => ⟨.slaE, fun t => t.shiftOperand .sla .e, fun _ => rfl, fun t => t.shiftOperand_keeps _ _, .inl rfl⟩
  | .slaH => ⟨.slaH, fun t => t.shiftOperand .sla .h, fun _ => rfl, fun t => t.shiftOperand_keeps _ _, .inl rfl⟩
  | .slaL => ⟨.slaL, fun t => t.shiftOperand .sla .l, fun _ => rfl, fun t => t.shiftOperand_keeps _ _, .inl rfl⟩
  | .slaAtHl => ⟨.slaAtHl, fun t => t.shiftOperand .sla .atHl, fun _ => rfl, fun t => t.shiftOperand_keeps _ _, .inl rfl⟩
  | .slaA => ⟨.slaA, fun t => t.shiftOperand .sla .a, fun _ => rfl, fun t => t.shiftOperand_keeps _ _, .inl rfl⟩
  | .sraB => ⟨.sraB, fun t => t.shiftOperand .sra .b, fun _ => rfl, fun t => t.shiftOperand_keeps _ _, .inl rfl⟩
  | .sraC => ⟨.sraC, fun t => t.shiftOperand .sra .c, fun _ => rfl, fun t => t.shiftOperand_keeps _ _, .inl rfl⟩
  | .sraD => ⟨.sraD, fun t => t.shiftOperand .sra .d, fun _ => rfl, fun t => t.shiftOperand_keeps _ _, .inl rfl⟩
  | .sraE => ⟨.sraE, fun t => t.shiftOperand .sra .e, fun _ => rfl, fun t => t.shiftOperand_keeps _ _, .inl rfl⟩
  | .sraH => ⟨.sraH, fun t => t.shiftOperand .sra .h, fun _ => rfl, fun t => t.shiftOperand_keeps _ _, .inl rfl⟩
  | .sraL => ⟨.sraL, fun t => t.shiftOperand .sra .l, fun _ => rfl, fun t => t.shiftOperand_keeps _ _, .inl rfl⟩
  | .sraAtHl => ⟨.sraAtHl, fun t => t.shiftOperand .sra .atHl, fun _ => rfl, fun t => t.shiftOperand_keeps _ _, .inl rfl⟩
  | .sraA => ⟨.sraA, fun t => t.shiftOperand .sra .a, fun _ => rfl, fun t => t.shiftOperand_keeps _ _, .inl rfl⟩
  | .swapB => ⟨.swapB, fun t => t.shiftOperand .swap .b, fun _ => rfl, fun t => t.shiftOperand_keeps _ _, .inl rfl⟩
  | .swapC => ⟨.swapC, fun t => t.shiftOperand .swap .c, fun _ => rfl, fun t => t.shiftOperand_keeps _ _, .inl rfl⟩
  | .swapD => ⟨.swapD, fun t => t.shiftOperand .swap .d, fun _ => rfl, fun t => t.shiftOperand_keeps _ _, .inl rfl⟩
  | .swapE => ⟨.swapE, fun t => t.shiftOperand .swap .e, fun _ => rfl, fun t => t.shiftOperand_keeps _ _, .inl rfl⟩
  | .swapH => ⟨.swapH, fun t => t.shiftOperand .swap .h, fun _ => rfl, fun t => t.shiftOperand_keeps _ _, .inl rfl⟩
  | .swapL => ⟨.swapL, fun t => t.shiftOperand .swap .l, fun _ => rfl, fun t => t.shiftOperand_keeps _ _, .inl rfl⟩
  | .swapAtHl => ⟨.swapAtHl, fun t => t.shiftOperand .swap .atHl, fun _ => rfl, fun t => t.shiftOperand_keeps _ _, .inl rfl⟩
  | .swapA => ⟨.swapA, fun t => t.shiftOperand .swap .a, fun _ => rfl, fun t => t.shiftOperand_keeps _ _, .inl rfl⟩
  | .srlB => ⟨.srlB, fun t => t.shiftOperand .srl .b, fun _ => rfl, fun t => t.shiftOperand_keeps _ _, .inl rfl⟩
  | .srlC => ⟨.srlC, fun t => t.shiftOperand .srl .c, fun _ => rfl, fun t => t.shiftOperand_keeps _ _, .inl rfl⟩
  | .srlD => ⟨.srlD, fun t => t.shiftOperand .srl .d, fun _ => rfl, fun t => t.shiftOperand_keeps _ _, .inl rfl⟩
  | .srlE => ⟨.srlE, fun t => t.shiftOperand .srl .e, fun _ => rfl, fun t => t.shiftOperand_keeps _ _, .inl rfl⟩
  | .srlH => ⟨.srlH, fun t => t.shiftOperand .srl .h, fun _ => rfl, fun t => t.shiftOperand_keeps _ _, .inl rfl⟩
  | .srlL => ⟨.srlL, fun t => t.shiftOperand .srl .l, fun _ => rfl, fun t => t.shiftOperand_keeps _ _, .inl rfl⟩
  | .srlAtHl => ⟨.srlAtHl, fun t => t.shiftOperand .srl .atHl, fun _ => rfl, fun t => t.shiftOperand_keeps _ _, .inl rfl⟩
  | .srlA => ⟨.srlA, fun t => t.shiftOperand .srl .a, fun _ => rfl, fun t => t.shiftOperand_keeps _ _, .inl rfl⟩
  | .bit0B => ⟨.bit0B, fun t => t.testBit 0 .b, fun _ => rfl, fun t => t.testBit_keeps _ _, .inl rfl⟩
  | .bit0C => ⟨.bit0C, fun t => t.testBit 0 .c, fun _ => rfl, fun t => t.testBit_keeps _ _, .inl rfl⟩
  | .bit0D => ⟨.bit0D, fun t => t.testBit 0 .d, fun _ => rfl, fun t => t.testBit_keeps _ _, .inl rfl⟩
  | .bit0E => ⟨.bit0E, fun t => t.testBit 0 .e, fun _ => rfl, fun t => t.testBit_keeps _ _, .inl rfl⟩
  | .bit0H => ⟨.bit0H, fun t => t.testBit 0 .h, fun _ => rfl, fun t => t.testBit_keeps _ _, .inl rfl⟩
  | .bit0L => ⟨.bit0L, fun t => t.testBit 0 .l, fun _ => rfl, fun t => t.testBit_keeps _ _, .inl rfl⟩
  | .bit0AtHl => ⟨.bit0AtHl, fun t => t.testBit 0 .atHl, fun _ => rfl, fun t => t.testBit_keeps _ _, .inl rfl⟩
  | .bit0A => ⟨.bit0A, fun t => t.testBit 0 .a, fun _ => rfl, fun t => t.testBit_keeps _ _, .inl rfl⟩
  | .bit1B => ⟨.bit1B, fun t => t.testBit 1 .b, fun _ => rfl, fun t => t.testBit_keeps _ _, .inl rfl⟩
  | .bit1C => ⟨.bit1C, fun t => t.testBit 1 .c, fun _ => rfl, fun t => t.testBit_keeps _ _, .inl rfl⟩
  | .bit1D => ⟨.bit1D, fun t => t.testBit 1 .d, fun _ => rfl, fun t => t.testBit_keeps _ _, .inl rfl⟩
  | .bit1E => ⟨.bit1E, fun t => t.testBit 1 .e, fun _ => rfl, fun t => t.testBit_keeps _ _, .inl rfl⟩
  | .bit1H => ⟨.bit1H, fun t => t.testBit 1 .h, fun _ => rfl, fun t => t.testBit_keeps _ _, .inl rfl⟩
  | .bit1L => ⟨.bit1L, fun t => t.testBit 1 .l, fun _ => rfl, fun t => t.testBit_keeps _ _, .inl rfl⟩
  | .bit1AtHl => ⟨.bit1AtHl, fun t => t.testBit 1 .atHl, fun _ => rfl, fun t => t.testBit_keeps _ _, .inl rfl⟩
  | .bit1A => ⟨.bit1A, fun t => t.testBit 1 .a, fun _ => rfl, fun t => t.testBit_keeps _ _, .inl rfl⟩
  | .bit2B => ⟨.bit2B, fun t => t.testBit 2 .b, fun _ => rfl, fun t => t.testBit_keeps _ _, .inl rfl⟩
  | .bit2C => ⟨.bit2C, fun t => t.testBit 2 .c, fun _ => rfl, fun t => t.testBit_keeps _ _, .inl rfl⟩
  | .bit2D => ⟨.bit2D, fun t => t.testBit 2 .d, fun _ => rfl, fun t => t.testBit_keeps _ _, .inl rfl⟩
  | .bit2E => ⟨.bit2E, fun t => t.testBit 2 .e, fun _ => rfl, fun t => t.testBit_keeps _ _, .inl rfl⟩
  | .bit2H => ⟨.bit2H, fun t => t.testBit 2 .h, fun _ => rfl, fun t => t.testBit_keeps _ _, .inl rfl⟩
  | .bit2L => ⟨.bit2L, fun t => t.testBit 2 .l, fun _ => rfl, fun t => t.testBit_keeps _ _, .inl rfl⟩
  | .bit2AtHl => ⟨.bit2AtHl, fun t => t.testBit 2 .atHl, fun _ => rfl, fun t => t.testBit_keeps _ _, .inl rfl⟩
  | .bit2A => ⟨.bit2A, fun t => t.testBit 2 .a, fun _ => rfl, fun t => t.testBit_keeps _ _, .inl rfl⟩
  | .bit3B => ⟨.bit3B, fun t => t.testBit 3 .b, fun _ => rfl, fun t => t.testBit_keeps _ _, .inl rfl⟩
  | .bit3C => ⟨.bit3C, fun t => t.testBit 3 .c, fun _ => rfl, fun t => t.testBit_keeps _ _, .inl rfl⟩
  | .bit3D => ⟨.bit3D, fun t => t.testBit 3 .d, fun _ => rfl, fun t => t.testBit_keeps _ _, .inl rfl⟩
  | .bit3E => ⟨.bit3E, fun t => t.testBit 3 .e, fun _ => rfl, fun t => t.testBit_keeps _ _, .inl rfl⟩
  | .bit3H => ⟨.bit3H, fun t => t.testBit 3 .h, fun _ => rfl, fun t => t.testBit_keeps _ _, .inl rfl⟩
  | .bit3L => ⟨.bit3L, fun t => t.testBit 3 .l, fun _ => rfl, fun t => t.testBit_keeps _ _, .inl rfl⟩
  | .bit3AtHl => ⟨.bit3AtHl, fun t => t.testBit 3 .atHl, fun _ => rfl, fun t => t.testBit_keeps _ _, .inl rfl⟩
  | .bit3A => ⟨.bit3A, fun t => t.testBit 3 .a, fun _ => rfl, fun t => t.testBit_keeps _ _, .inl rfl⟩
  | .bit4B => ⟨.bit4B, fun t => t.testBit 4 .b, fun _ => rfl, fun t => t.testBit_keeps _ _, .inl rfl⟩
  | .bit4C => ⟨.bit4C, fun t => t.testBit 4 .c, fun _ => rfl, fun t => t.testBit_keeps _ _, .inl rfl⟩
  | .bit4D => ⟨.bit4D, fun t => t.testBit 4 .d, fun _ => rfl, fun t => t.testBit_keeps _ _, .inl rfl⟩
  | .bit4E => ⟨.bit4E, fun t => t.testBit 4 .e, fun _ => rfl, fun t => t.testBit_keeps _ _, .inl rfl⟩
  | .bit4H => ⟨.bit4H, fun t => t.testBit 4 .h, fun _ => rfl, fun t => t.testBit_keeps _ _, .inl rfl⟩
  | .bit4L => ⟨.bit4L, fun t => t.testBit 4 .l, fun _ => rfl, fun t => t.testBit_keeps _ _, .inl rfl⟩
  | .bit4AtHl => ⟨.bit4AtHl, fun t => t.testBit 4 .atHl, fun _ => rfl, fun t => t.testBit_keeps _ _, .inl rfl⟩
  | .bit4A => ⟨.bit4A, fun t => t.testBit 4 .a, fun _ => rfl, fun t => t.testBit_keeps _ _, .inl rfl⟩
  | .bit5B => ⟨.bit5B, fun t => t.testBit 5 .b, fun _ => rfl, fun t => t.testBit_keeps _ _, .inl rfl⟩
  | .bit5C => ⟨.bit5C, fun t => t.testBit 5 .c, fun _ => rfl, fun t => t.testBit_keeps _ _, .inl rfl⟩
  | .bit5D => ⟨.bit5D, fun t => t.testBit 5 .d, fun _ => rfl, fun t => t.testBit_keeps _ _, .inl rfl⟩
  | .bit5E => ⟨.bit5E, fun t => t.testBit 5 .e, fun _ => rfl, fun t => t.testBit_keeps _ _, .inl rfl⟩
  | .bit5H => ⟨.bit5H, fun t => t.testBit 5 .h, fun _ => rfl, fun t => t.testBit_keeps _ _, .inl rfl⟩
  | .bit5L => ⟨.bit5L, fun t => t.testBit 5 .l, fun _ => rfl, fun t => t.testBit_keeps _ _, .inl rfl⟩
  | .bit5AtHl => ⟨.bit5AtHl, fun t => t.testBit 5 .atHl, fun _ => rfl, fun t => t.testBit_keeps _ _, .inl rfl⟩
  | .bit5A => ⟨.bit5A, fun t => t.testBit 5 .a, fun _ => rfl, fun t => t.testBit_keeps _ _, .inl rfl⟩
  | .bit6B => ⟨.bit6B, fun t => t.testBit 6 .b, fun _ => rfl, fun t => t.testBit_keeps _ _, .inl rfl⟩
  | .bit6C => ⟨.bit6C, fun t => t.testBit 6 .c, fun _ => rfl, fun t => t.testBit_keeps _ _, .inl rfl⟩
  | .bit6D => ⟨.bit6D, fun t => t.testBit 6 .d, fun _ => rfl, fun t => t.testBit_keeps _ _, .inl rfl⟩
  | .bit6E => ⟨.bit6E, fun t => t.testBit 6 .e, fun _ => rfl, fun t => t.testBit_keeps _ _, .inl rfl⟩
  | .bit6H => ⟨.bit6H, fun t => t.testBit 6 .h, fun _ => rfl, fun t => t.testBit_keeps _ _, .inl rfl⟩
  | .bit6L => ⟨.bit6L, fun t => t.testBit 6 .l, fun _ => rfl, fun t => t.testBit_keeps _ _, .inl rfl⟩
  | .bit6AtHl => ⟨.bit6AtHl, fun t => t.testBit 6 .atHl, fun _ => rfl, fun t => t.testBit_keeps _ _, .inl rfl⟩
  | .bit6A => ⟨.bit6A, fun t => t.testBit 6 .a, fun _ => rfl, fun t => t.testBit_keeps _ _, .inl rfl⟩
  | .bit7B => ⟨.bit7B, fun t => t.testBit 7 .b, fun _ => rfl, fun t => t.testBit_keeps _ _, .inl rfl⟩
  | .bit7C => ⟨.bit7C, fun t => t.testBit 7 .c, fun _ => rfl, fun t => t.testBit_keeps _ _, .inl rfl⟩
  | .bit7D => ⟨.bit7D, fun t => t.testBit 7 .d, fun _ => rfl, fun t => t.testBit_keeps _ _, .inl rfl⟩
  | .bit7E => ⟨.bit7E, fun t => t.testBit 7 .e, fun _ => rfl, fun t => t.testBit_keeps _ _, .inl rfl⟩
  | .bit7H => ⟨.bit7H, fun t => t.testBit 7 .h, fun _ => rfl, fun t => t.testBit_keeps _ _, .inl rfl⟩
  | .bit7L => ⟨.bit7L, fun t => t.testBit 7 .l, fun _ => rfl, fun t => t.testBit_keeps _ _, .inl rfl⟩
  | .bit7AtHl => ⟨.bit7AtHl, fun t => t.testBit 7 .atHl, fun _ => rfl, fun t => t.testBit_keeps _ _, .inl rfl⟩
  | .bit7A => ⟨.bit7A, fun t => t.testBit 7 .a, fun _ => rfl, fun t => t.testBit_keeps _ _, .inl rfl⟩
  | .res0B => ⟨.res0B, fun t => t.resetBit 0 .b, fun _ => rfl, fun t => t.resetBit_keeps _ _, .inl rfl⟩
  | .res0C => ⟨.res0C, fun t => t.resetBit 0 .c, fun _ => rfl, fun t => t.resetBit_keeps _ _, .inl rfl⟩
  | .res0D => ⟨.res0D, fun t => t.resetBit 0 .d, fun _ => rfl, fun t => t.resetBit_keeps _ _, .inl rfl⟩
  | .res0E => ⟨.res0E, fun t => t.resetBit 0 .e, fun _ => rfl, fun t => t.resetBit_keeps _ _, .inl rfl⟩
  | .res0H => ⟨.res0H, fun t => t.resetBit 0 .h, fun _ => rfl, fun t => t.resetBit_keeps _ _, .inl rfl⟩
  | .res0L => ⟨.res0L, fun t => t.resetBit 0 .l, fun _ => rfl, fun t => t.resetBit_keeps _ _, .inl rfl⟩
  | .res0AtHl => ⟨.res0AtHl, fun t => t.resetBit 0 .atHl, fun _ => rfl, fun t => t.resetBit_keeps _ _, .inl rfl⟩
  | .res0A => ⟨.res0A, fun t => t.resetBit 0 .a, fun _ => rfl, fun t => t.resetBit_keeps _ _, .inl rfl⟩
  | .res1B => ⟨.res1B, fun t => t.resetBit 1 .b, fun _ => rfl, fun t => t.resetBit_keeps _ _, .inl rfl⟩
  | .res1C => ⟨.res1C, fun t => t.resetBit 1 .c, fun _ => rfl, fun t => t.resetBit_keeps _ _, .inl rfl⟩
  | .res1D => ⟨.res1D, fun t => t.resetBit 1 .d, fun _ => rfl, fun t => t.resetBit_keeps _ _, .inl rfl⟩
  | .res1E => ⟨.res1E, fun t => t.resetBit 1 .e, fun _ => rfl, fun t => t.resetBit_keeps _ _, .inl rfl⟩
  | .res1H => ⟨.res1H, fun t => t.resetBit 1 .h, fun _ => rfl, fun t => t.resetBit_keeps _ _, .inl rfl⟩
  | .res1L => ⟨.res1L, fun t => t.resetBit 1 .l, fun _ => rfl, fun t => t.resetBit_keeps _ _, .inl rfl⟩
  | .res1AtHl => ⟨.res1AtHl, fun t => t.resetBit 1 .atHl, fun _ => rfl, fun t => t.resetBit_keeps _ _, .inl rfl⟩
  | .res1A => ⟨.res1A, fun t => t.resetBit 1 .a, fun _ => rfl, fun t => t.resetBit_keeps _ _, .inl rfl⟩
  | .res2B => ⟨.res2B, fun t => t.resetBit 2 .b, fun _ => rfl, fun t => t.resetBit_keeps _ _, .inl rfl⟩
  | .res2C => ⟨.res2C, fun t => t.resetBit 2 .c, fun _ => rfl, fun t => t.resetBit_keeps _ _, .inl rfl⟩
  | .res2D => ⟨.res2D, fun t => t.resetBit 2 .d, fun _ => rfl, fun t => t.resetBit_keeps _ _, .inl rfl⟩
  | .res2E => ⟨.res2E, fun t => t.resetBit 2 .e, fun _ => rfl, fun t => t.resetBit_keeps _ _, .inl rfl⟩
  | .res2H => ⟨.res2H, fun t => t.resetBit 2 .h, fun _ => rfl, fun t => t.resetBit_keeps _ _, .inl rfl⟩
  | .res2L => ⟨.res2L, fun t => t.resetBit 2 .l, fun _ => rfl, fun t => t.resetBit_keeps _ _, .inl rfl⟩
  | .res2AtHl => ⟨.res2AtHl, fun t => t.resetBit 2 .atHl, fun _ => rfl, fun t => t.resetBit_keeps _ _, .inl rfl⟩
  | .res2A => ⟨.res2A, fun t => t.resetBit 2 .a, fun _ => rfl, fun t => t.resetBit_keeps _ _, .inl rfl⟩
  | .res3B => ⟨.res3B, fun t => t.resetBit 3 .b, fun _ => rfl, fun t => t.resetBit_keeps _ _, .inl rfl⟩
  | .res3C => ⟨.res3C, fun t => t.resetBit 3 .c, fun _ => rfl, fun t => t.resetBit_keeps _ _, .inl rfl⟩
  | .res3D => ⟨.res3D, fun t => t.resetBit 3 .d, fun _ => rfl, fun t => t.resetBit_keeps _ _, .inl rfl⟩
  | .res3E => ⟨.res3E, fun t => t.resetBit 3 .e, fun _ => rfl, fun t => t.resetBit_keeps _ _, .inl rfl⟩
  | .res3H => ⟨.res3H, fun t => t.resetBit 3 .h, fun _ => rfl, fun t => t.resetBit_keeps _ _, .inl rfl⟩
  | .res3L => ⟨.res3L, fun t => t.resetBit 3 .l, fun _ => rfl, fun t => t.resetBit_keeps _ _, .inl rfl⟩
  | .res3AtHl => ⟨.res3AtHl, fun t => t.resetBit 3 .atHl, fun _ => rfl, fun t => t.resetBit_keeps _ _, .inl rfl⟩
  | .res3A => ⟨.res3A, fun t => t.resetBit 3 .a, fun _ => rfl, fun t => t.resetBit_keeps _ _, .inl rfl⟩
  | .res4B => ⟨.res4B, fun t => t.resetBit 4 .b, fun _ => rfl, fun t => t.resetBit_keeps _ _, .inl rfl⟩
  | .res4C => ⟨.res4C, fun t => t.resetBit 4 .c, fun _ => rfl, fun t => t.resetBit_keeps _ _, .inl rfl⟩
  | .res4D => ⟨.res4D, fun t => t.resetBit 4 .d, fun _ => rfl, fun t => t.resetBit_keeps _ _, .inl rfl⟩
  | .res4E => ⟨.res4E, fun t => t.resetBit 4 .e, fun _ => rfl, fun t => t.resetBit_keeps _ _, .inl rfl⟩
  | .res4H => ⟨.res4H, fun t => t.resetBit 4 .h, fun _ => rfl, fun t => t.resetBit_keeps _ _, .inl rfl⟩
  | .res4L => ⟨.res4L, fun t => t.resetBit 4 .l, fun _ => rfl, fun t => t.resetBit_keeps _ _, .inl rfl⟩
  | .res4AtHl => ⟨.res4AtHl, fun t => t.resetBit 4 .atHl, fun _ => rfl, fun t => t.resetBit_keeps _ _, .inl rfl⟩
  | .res4A => ⟨.res4A, fun t => t.resetBit 4 .a, fun _ => rfl, fun t => t.resetBit_keeps _ _, .inl rfl⟩
  | .res5B => ⟨.res5B, fun t => t.resetBit 5 .b, fun _ => rfl, fun t => t.resetBit_keeps _ _, .inl rfl⟩
  | .res5C => ⟨.res5C, fun t => t.resetBit 5 .c, fun _ => rfl, fun t => t.resetBit_keeps _ _, .inl rfl⟩
  | .res5D => ⟨.res5D, fun t => t.resetBit 5 .d, fun _ => rfl, fun t => t.resetBit_keeps _ _, .inl rfl⟩
  | .res5E => ⟨.res5E, fun t => t.resetBit 5 .e, fun _ => rfl, fun t => t.resetBit_keeps _ _, .inl rfl⟩
  | .res5H => ⟨.res5H, fun t => t.resetBit 5 .h, fun _ => rfl, fun t => t.resetBit_keeps _ _, .inl rfl⟩
  | .res5L => ⟨.res5L, fun t => t.resetBit 5 .l, fun _ => rfl, fun t => t.resetBit_keeps _ _, .inl rfl⟩
  | .res5AtHl => ⟨.res5AtHl, fun t => t.resetBit 5 .atHl, fun _ => rfl, fun t => t.resetBit_keeps _ _, .inl rfl⟩
  | .res5A => ⟨.res5A, fun t => t.resetBit 5 .a, fun _ => rfl, fun t => t.resetBit_keeps _ _, .inl rfl⟩
  | .res6B => ⟨.res6B, fun t => t.resetBit 6 .b, fun _ => rfl, fun t => t.resetBit_keeps _ _, .inl rfl⟩
  | .res6C => ⟨.res6C, fun t => t.resetBit 6 .c, fun _ => rfl, fun t => t.resetBit_keeps _ _, .inl rfl⟩
  | .res6D => ⟨.res6D, fun t => t.resetBit 6 .d, fun _ => rfl, fun t => t.resetBit_keeps _ _, .inl rfl⟩
  | .res6E => ⟨.res6E, fun t => t.resetBit 6 .e, fun _ => rfl, fun t => t.resetBit_keeps _ _, .inl rfl⟩
  | .res6H => ⟨.res6H, fun t => t.resetBit 6 .h, fun _ => rfl, fun t => t.resetBit_keeps _ _, .inl rfl⟩
  | .res6L => ⟨.res6L, fun t => t.resetBit 6 .l, fun _ => rfl, fun t => t.resetBit_keeps _ _, .inl rfl⟩
  | .res6AtHl => ⟨.res6AtHl, fun t => t.resetBit 6 .atHl, fun _ => rfl, fun t => t.resetBit_keeps _ _, .inl rfl⟩
  | .res6A => ⟨.res6A, fun t => t.resetBit 6 .a, fun _ => rfl, fun t => t.resetBit_keeps _ _, .inl rfl⟩
  | .res7B => ⟨.res7B, fun t => t.resetBit 7 .b, fun _ => rfl, fun t => t.resetBit_keeps _ _, .inl rfl⟩
  | .res7C => ⟨.res7C, fun t => t.resetBit 7 .c, fun _ => rfl, fun t => t.resetBit_keeps _ _, .inl rfl⟩
  | .res7D => ⟨.res7D, fun t => t.resetBit 7 .d, fun _ => rfl, fun t => t.resetBit_keeps _ _, .inl rfl⟩
  | .res7E => ⟨.res7E, fun t => t.resetBit 7 .e, fun _ => rfl, fun t => t.resetBit_keeps _ _, .inl rfl⟩
  | .res7H => ⟨.res7H, fun t => t.resetBit 7 .h, fun _ => rfl, fun t => t.resetBit_keeps _ _, .inl rfl⟩
  | .res7L => ⟨.res7L, fun t => t.resetBit 7 .l, fun _ => rfl, fun t => t.resetBit_keeps _ _, .inl rfl⟩
  | .res7AtHl => ⟨.res7AtHl, fun t => t.resetBit 7 .atHl, fun _ => rfl, fun t => t.resetBit_keeps _ _, .inl rfl⟩
  | .res7A => ⟨.res7A, fun t => t.resetBit 7 .a, fun _ => rfl, fun t => t.resetBit_keeps _ _, .inl rfl⟩
  | .set0B => ⟨.set0B, fun t => t.setBit 0 .b, fun _ => rfl, fun t => t.setBit_keeps _ _, .inl rfl⟩
  | .set0C => ⟨.set0C, fun t => t.setBit 0 .c, fun _ => rfl, fun t => t.setBit_keeps _ _, .inl rfl⟩
  | .set0D => ⟨.set0D, fun t => t.setBit 0 .d, fun _ => rfl, fun t => t.setBit_keeps _ _, .inl rfl⟩
  | .set0E => ⟨.set0E, fun t => t.setBit 0 .e, fun _ => rfl, fun t => t.setBit_keeps _ _, .inl rfl⟩
  | .set0H => ⟨.set0H, fun t => t.setBit 0 .h, fun _ => rfl, fun t => t.setBit_keeps _ _, .inl rfl⟩
  | .set0L => ⟨.set0L, fun t => t.setBit 0 .l, fun _ => rfl, fun t => t.setBit_keeps _ _, .inl rfl⟩
  | .set0AtHl => ⟨.set0AtHl, fun t => t.setBit 0 .atHl, fun _ => rfl, fun t => t.setBit_keeps _ _, .inl rfl⟩
  | .set0A => ⟨.set0A, fun t => t.setBit 0 .a, fun _ => rfl, fun t => t.setBit_keeps _ _, .inl rfl⟩
  | .set1B => ⟨.set1B, fun t => t.setBit 1 .b, fun _ => rfl, fun t => t.setBit_keeps _ _, .inl rfl⟩
  | .set1C => ⟨.set1C, fun t => t.setBit 1 .c, fun _ => rfl, fun t => t.setBit_keeps _ _, .inl rfl⟩
  | .set1D => ⟨.set1D, fun t => t.setBit 1 .d, fun _ => rfl, fun t => t.setBit_keeps _ _, .inl rfl⟩
  | .set1E => ⟨.set1E, fun t => t.setBit 1 .e, fun _ => rfl, fun t => t.setBit_keeps _ _, .inl rfl⟩
  | .set1H => ⟨.set1H, fun t => t.setBit 1 .h, fun _ => rfl, fun t => t.setBit_keeps _ _, .inl rfl⟩
  | .set1L => ⟨.set1L, fun t => t.setBit 1 .l, fun _ => rfl, fun t => t.setBit_keeps _ _, .inl rfl⟩
  | .set1AtHl => ⟨.set1AtHl, fun t => t.setBit 1 .atHl, fun _ => rfl, fun t => t.setBit_keeps _ _, .inl rfl⟩
  | .set1A => ⟨.set1A, fun t => t.setBit 1 .a, fun _ => rfl, fun t => t.setBit_keeps _ _, .inl rfl⟩
  | .set2B => ⟨.set2B, fun t => t.setBit 2 .b, fun _ => rfl, fun t => t.setBit_keeps _ _, .inl rfl⟩
  | .set2C => ⟨.set2C, fun t => t.setBit 2 .c, fun _ => rfl, fun t => t.setBit_keeps _ _, .inl rfl⟩
  | .set2D => ⟨.set2D, fun t => t.setBit 2 .d, fun _ => rfl, fun t => t.setBit_keeps _ _, .inl rfl⟩
  | .set2E => ⟨.set2E, fun t => t.setBit 2 .e, fun _ => rfl, fun t => t.setBit_keeps _ _, .inl rfl⟩
  | .set2H => ⟨.set2H, fun t => t.setBit 2 .h, fun _ => rfl, fun t => t.setBit_keeps _ _, .inl rfl⟩
  | .set2L => ⟨.set2L, fun t => t.setBit 2 .l, fun _ => rfl, fun t => t.setBit_keeps _ _, .inl rfl⟩
  | .set2AtHl => ⟨.set2AtHl, fun t => t.setBit 2 .atHl, fun _ => rfl, fun t => t.setBit_keeps _ _, .inl rfl⟩
  | .set2A => ⟨.set2A, fun t => t.setBit 2 .a, fun _ => rfl, fun t => t.setBit_keeps _ _, .inl rfl⟩
  | .set3B => ⟨.set3B, fun t => t.setBit 3 .b, fun _ => rfl, fun t => t.setBit_keeps _ _, .inl rfl⟩
  | .set3C => ⟨.set3C, fun t => t.setBit 3 .c, fun _ => rfl, fun t => t.setBit_keeps _ _, .inl rfl⟩
  | .set3D => ⟨.set3D, fun t => t.setBit 3 .d, fun _ => rfl, fun t => t.setBit_keeps _ _, .inl rfl⟩
  | .set3E => ⟨.set3E, fun t => t.setBit 3 .e, fun _ => rfl, fun t => t.setBit_keeps _ _, .inl rfl⟩
  | .set3H => ⟨.set3H, fun t => t.setBit 3 .h, fun _ => rfl, fun t => t.setBit_keeps _ _, .inl rfl⟩
  | .set3L => ⟨.set3L, fun t => t.setBit 3 .l, fun _ => rfl, fun t => t.setBit_keeps _ _, .inl rfl⟩
  | .set3AtHl => ⟨.set3AtHl, fun t => t.setBit 3 .atHl, fun _ => rfl, fun t => t.setBit_keeps _ _, .inl rfl⟩
  | .set3A => ⟨.set3A, fun t => t.setBit 3 .a, fun _ => rfl, fun t => t.setBit_keeps _ _, .inl rfl⟩
  | .set4B => ⟨.set4B, fun t => t.setBit 4 .b, fun _ => rfl, fun t => t.setBit_keeps _ _, .inl rfl⟩
  | .set4C => ⟨.set4C, fun t => t.setBit 4 .c, fun _ => rfl, fun t => t.setBit_keeps _ _, .inl rfl⟩
  | .set4D => ⟨.set4D, fun t => t.setBit 4 .d, fun _ => rfl, fun t => t.setBit_keeps _ _, .inl rfl⟩
  | .set4E => ⟨.set4E, fun t => t.setBit 4 .e, fun _ => rfl, fun t => t.setBit_keeps _ _, .inl rfl⟩
  | .set4H => ⟨.set4H, fun t => t.setBit 4 .h, fun _ => rfl, fun t => t.setBit_keeps _ _, .inl rfl⟩
  | .set4L => ⟨.set4L, fun t => t.setBit 4 .l, fun _ => rfl, fun t => t.setBit_keeps _ _, .inl rfl⟩
  | .set4AtHl => ⟨.set4AtHl, fun t => t.setBit 4 .atHl, fun _ => rfl, fun t => t.setBit_keeps _ _, .inl rfl⟩
  | .set4A => ⟨.set4A, fun t => t.setBit 4 .a, fun _ => rfl, fun t => t.setBit_keeps _ _, .inl rfl⟩
  | .set5B => ⟨.set5B, fun t => t.setBit 5 .b, fun _ => rfl, fun t => t.setBit_keeps _ _, .inl rfl⟩
  | .set5C => ⟨.set5C, fun t => t.setBit 5 .c, fun _ => rfl, fun t => t.setBit_keeps _ _, .inl rfl⟩
  | .set5D => ⟨.set5D, fun t => t.setBit 5 .d, fun _ => rfl, fun t => t.setBit_keeps _ _, .inl rfl⟩
  | .set5E => ⟨.set5E, fun t => t.setBit 5 .e, fun _ => rfl, fun t => t.setBit_keeps _ _, .inl rfl⟩
  | .set5H => ⟨.set5H, fun t => t.setBit 5 .h, fun _ => rfl, fun t => t.setBit_keeps _ _, .inl rfl⟩
  | .set5L => ⟨.set5L, fun t => t.setBit 5 .l, fun _ => rfl, fun t => t.setBit_keeps _ _, .inl rfl⟩
  | .set5AtHl => ⟨.set5AtHl, fun t => t.setBit 5 .atHl, fun _ => rfl, fun t => t.setBit_keeps _ _, .inl rfl⟩
  | .set5A => ⟨.set5A, fun t => t.setBit 5 .a, fun _ => rfl, fun t => t.setBit_keeps _ _, .inl rfl⟩
  | .set6B => ⟨.set6B, fun t => t.setBit 6 .b, fun _ => rfl, fun t => t.setBit_keeps _ _, .inl rfl⟩
  | .set6C => ⟨.set6C, fun t => t.setBit 6 .c, fun _ => rfl, fun t => t.setBit_keeps _ _, .inl rfl⟩
  | .set6D => ⟨.set6D, fun t => t.setBit 6 .d, fun _ => rfl, fun t => t.setBit_keeps _ _, .inl rfl⟩
  | .set6E => ⟨.set6E, fun t => t.setBit 6 .e, fun _ => rfl, fun t => t.setBit_keeps _ _, .inl rfl⟩
  | .set6H => ⟨.set6H, fun t => t.setBit 6 .h, fun _ => rfl, fun t => t.setBit_keeps _ _, .inl rfl⟩
  | .set6L => ⟨.set6L, fun t => t.setBit 6 .l, fun _ => rfl, fun t => t.setBit_keeps _ _, .inl rfl⟩
  | .set6AtHl => ⟨.set6AtHl, fun t => t.setBit 6 .atHl, fun _ => rfl, fun t => t.setBit_keeps _ _, .inl rfl⟩
  | .set6A => ⟨.set6A, fun t => t.setBit 6 .a, fun _ => rfl, fun t => t.setBit_keeps _ _, .inl rfl⟩
  | .set7B => ⟨.set7B, fun t => t.setBit 7 .b, fun _ => rfl, fun t => t.setBit_keeps _ _, .inl rfl⟩
  | .set7C => ⟨.set7C, fun t => t.setBit 7 .c, fun _ => rfl, fun t => t.setBit_keeps _ _, .inl rfl⟩
  | .set7D => ⟨.set7D, fun t => t.setBit 7 .d, fun _ => rfl, fun t => t.setBit_keeps _ _, .inl rfl⟩
  | .set7E => ⟨.set7E, fun t => t.setBit 7 .e, fun _ => rfl, fun t => t.setBit_keeps _ _, .inl rfl⟩
  | .set7H => ⟨.set7H, fun t => t.setBit 7 .h, fun _ => rfl, fun t => t.setBit_keeps _ _, .inl rfl⟩
  | .set7L => ⟨.set7L, fun t => t.setBit 7 .l, fun _ => rfl, fun t => t.setBit_keeps _ _, .inl rfl⟩
  | .set7AtHl => ⟨.set7AtHl, fun t => t.setBit 7 .atHl, fun _ => rfl, fun t => t.setBit_keeps _ _, .inl rfl⟩
  | .set7A => ⟨.set7A, fun t => t.setBit 7 .a, fun _ => rfl, fun t => t.setBit_keeps _ _, .inl rfl⟩

end Sys2Proof.Machine
end

