-- ==== Sys2Proof/Tests/Slice0.lean ====
section
/-! SUPPORT. Tests: ill-formed terms, the decoding of every word of the two opcode maps (30_encoding.md section 6), single steps from 95_test_vectors.md, and a witness for every statement that has hypotheses. -/

open Sys2Proof Sys2Proof.Machine

namespace Sys2Proof.Tests

/-! ## Well-formedness -/

/-- A byte that has a descriptor is no illegal opcode (R134). -/
theorem test_illegal_needs_one_of_the_eleven : (Instr.illegal 0x00).wf = false ∧ (Instr.illegal 0xD2).wf = false ∧ (Instr.illegal 0xD3).wf = true := by decide

/-- The prefix byte is never an instruction of its own (R266). -/
theorem test_prefix_row_is_never_decoded : (Instr.prefixCb 0x00).wf = false ∧ decodeBytes 0xCB 0x00 0x00 = .rlcB := by decide

/-- Neither a missing byte nor a missing operand decodes (R120). -/
theorem test_decode_refuses_short_bytes : decode [] = .error .noBytes ∧ decode [0x01, 0x34] = .error (.tooShort 0x01 3) := by decide

/-! ## Decoding, row by row: each opcode of the row, followed by the bytes 0x34 and 0x12 -/

theorem test_decode_primary_row_0 :
    ([0x00, 0x01, 0x02, 0x03, 0x04, 0x05, 0x06, 0x07, 0x08, 0x09, 0x0A, 0x0B, 0x0C, 0x0D, 0x0E, 0x0F] : List Byte).map (fun op => decodeBytes op 0x34 0x12) =
      [.nop, .ldBcN16 0x1234, .ldAtBcA, .incBc, .incB, .decB, .ldBN8 0x34, .rlca,
       .ldAtA16Sp 0x1234, .addHlBc, .ldAAtBc, .decBc, .incC, .decC, .ldCN8 0x34, .rrca] := by decide

theorem test_decode_primary_row_1 :
    ([0x10, 0x11, 0x12, 0x13, 0x14, 0x15, 0x16, 0x17, 0x18, 0x19, 0x1A, 0x1B, 0x1C, 0x1D, 0x1E, 0x1F] : List Byte).map (fun op => decodeBytes op 0x34 0x12) =
      [.stop 0x34, .ldDeN16 0x1234, .ldAtDeA, .incDe, .incD, .decD, .ldDN8 0x34, .rla,
       .jrE8 0x34, .addHlDe, .ldAAtDe, .decDe, .incE, .decE, .ldEN8 0x34, .rra] := by decide

theorem test_decode_primary_row_2 :
    ([0x20, 0x21, 0x22, 0x23, 0x24, 0x25, 0x26, 0x27, 0x28, 0x29, 0x2A, 0x2B, 0x2C, 0x2D, 0x2E, 0x2F] : List Byte).map (fun op => decodeBytes op 0x34 0x12) =
      [.jrNzE8 0x34, .ldHlN16 0x1234, .ldAtHlIncA, .incHl, .incH, .decH, .ldHN8 0x34, .daa,
       .jrZE8 0x34, .addHlHl, .ldAAtHlInc, .decHl, .incL, .decL, .ldLN8 0x34, .cpl] := by decide

theorem test_decode_primary_row_3 :
    ([0x30, 0x31, 0x32, 0x33, 0x34, 0x35, 0x36, 0x37, 0x38, 0x39, 0x3A, 0x3B, 0x3C, 0x3D, 0x3E, 0x3F] : List Byte).map (fun op => decodeBytes op 0x34 0x12) =
      [.jrNcE8 0x34, .ldSpN16 0x1234, .ldAtHlDecA, .incSp, .incAtHl, .decAtHl, .ldAtHlN8 0x34, .scf,
       .jrCE8 0x34, .addHlSp, .ldAAtHlDec, .decSp, .incA, .decA, .ldAN8 0x34, .ccf] := by decide

theorem test_decode_primary_row_4 :
    ([0x40, 0x41, 0x42, 0x43, 0x44, 0x45, 0x46, 0x47, 0x48, 0x49, 0x4A, 0x4B, 0x4C, 0x4D, 0x4E, 0x4F] : List Byte).map (fun op => decodeBytes op 0x34 0x12) =
      [.ldBB, .ldBC, .ldBD, .ldBE, .ldBH, .ldBL, .ldBAtHl, .ldBA,
       .ldCB, .ldCC, .ldCD, .ldCE, .ldCH, .ldCL, .ldCAtHl, .ldCA] := by decide

theorem test_decode_primary_row_5 :
    ([0x50, 0x51, 0x52, 0x53, 0x54, 0x55, 0x56, 0x57, 0x58, 0x59, 0x5A, 0x5B, 0x5C, 0x5D, 0x5E, 0x5F] : List Byte).map (fun op => decodeBytes op 0x34 0x12) =
      [.ldDB, .ldDC, .ldDD, .ldDE, .ldDH, .ldDL, .ldDAtHl, .ldDA,
       .ldEB, .ldEC, .ldED, .ldEE, .ldEH, .ldEL, .ldEAtHl, .ldEA] := by decide

theorem test_decode_primary_row_6 :
    ([0x60, 0x61, 0x62, 0x63, 0x64, 0x65, 0x66, 0x67, 0x68, 0x69, 0x6A, 0x6B, 0x6C, 0x6D, 0x6E, 0x6F] : List Byte).map (fun op => decodeBytes op 0x34 0x12) =
      [.ldHB, .ldHC, .ldHD, .ldHE, .ldHH, .ldHL, .ldHAtHl, .ldHA,
       .ldLB, .ldLC, .ldLD, .ldLE, .ldLH, .ldLL, .ldLAtHl, .ldLA] := by decide

theorem test_decode_primary_row_7 :
    ([0x70, 0x71, 0x72, 0x73, 0x74, 0x75, 0x76, 0x77, 0x78, 0x79, 0x7A, 0x7B, 0x7C, 0x7D, 0x7E, 0x7F] : List Byte).map (fun op => decodeBytes op 0x34 0x12) =
      [.ldAtHlB, .ldAtHlC, .ldAtHlD, .ldAtHlE, .ldAtHlH, .ldAtHlL, .halt, .ldAtHlA,
       .ldAB, .ldAC, .ldAD, .ldAE, .ldAH, .ldAL, .ldAAtHl, .ldAA] := by decide

theorem test_decode_primary_row_8 :
    ([0x80, 0x81, 0x82, 0x83, 0x84, 0x85, 0x86, 0x87, 0x88, 0x89, 0x8A, 0x8B, 0x8C, 0x8D, 0x8E, 0x8F] : List Byte).map (fun op => decodeBytes op 0x34 0x12) =
      [.addAB, .addAC, .addAD, .addAE, .addAH, .addAL, .addAAtHl, .addAA,
       .adcAB, .adcAC, .adcAD, .adcAE, .adcAH, .adcAL, .adcAAtHl, .adcAA] := by decide

theorem test_decode_primary_row_9 :
    ([0x90, 0x91, 0x92, 0x93, 0x94, 0x95, 0x96, 0x97, 0x98, 0x99, 0x9A, 0x9B, 0x9C, 0x9D, 0x9E, 0x9F] : List Byte).map (fun op => decodeBytes op 0x34 0x12) =
      [.subAB, .subAC, .subAD, .subAE, .subAH, .subAL, .subAAtHl, .subAA,
       .sbcAB, .sbcAC, .sbcAD, .sbcAE, .sbcAH, .sbcAL, .sbcAAtHl, .sbcAA] := by decide

theorem test_decode_primary_row_A :
    ([0xA0, 0xA1, 0xA2, 0xA3, 0xA4, 0xA5, 0xA6, 0xA7, 0xA8, 0xA9, 0xAA, 0xAB, 0xAC, 0xAD, 0xAE, 0xAF] : List Byte).map (fun op => decodeBytes op 0x34 0x12) =
      [.andAB, .andAC, .andAD, .andAE, .andAH, .andAL, .andAAtHl, .andAA,
       .xorAB, .xorAC, .xorAD, .xorAE, .xorAH, .xorAL, .xorAAtHl, .xorAA] := by decide

theorem test_decode_primary_row_B :
    ([0xB0, 0xB1, 0xB2, 0xB3, 0xB4, 0xB5, 0xB6, 0xB7, 0xB8, 0xB9, 0xBA, 0xBB, 0xBC, 0xBD, 0xBE, 0xBF] : List Byte).map (fun op => decodeBytes op 0x34 0x12) =
      [.orAB, .orAC, .orAD, .orAE, .orAH, .orAL, .orAAtHl, .orAA,
       .cpAB, .cpAC, .cpAD, .cpAE, .cpAH, .cpAL, .cpAAtHl, .cpAA] := by decide

theorem test_decode_primary_row_C :
    ([0xC0, 0xC1, 0xC2, 0xC3, 0xC4, 0xC5, 0xC6, 0xC7, 0xC8, 0xC9, 0xCA, 0xCB, 0xCC, 0xCD, 0xCE, 0xCF] : List Byte).map (fun op => decodeBytes op 0x34 0x12) =
      [.retNz, .popBc, .jpNzA16 0x1234, .jpA16 0x1234, .callNzA16 0x1234, .pushBc, .addAN8 0x34, .rst00,
       .retZ, .ret, .jpZA16 0x1234, .swapH, .callZA16 0x1234, .callA16 0x1234, .adcAN8 0x34, .rst08] := by decide

theorem test_decode_primary_row_D :
    ([0xD0, 0xD1, 0xD2, 0xD3, 0xD4, 0xD5, 0xD6, 0xD7, 0xD8, 0xD9, 0xDA, 0xDB, 0xDC, 0xDD, 0xDE, 0xDF] : List Byte).map (fun op => decodeBytes op 0x34 0x12) =
      [.retNc, .popDe, .jpNcA16 0x1234, .illegal 0xD3, .callNcA16 0x1234, .pushDe, .subAN8 0x34, .rst10,
       .retC, .reti, .jpCA16 0x1234, .illegal 0xDB, .callCA16 0x1234, .illegal 0xDD, .sbcAN8 0x34, .rst18] := by decide

theorem test_decode_primary_row_E :
    ([0xE0, 0xE1, 0xE2, 0xE3, 0xE4, 0xE5, 0xE6, 0xE7, 0xE8, 0xE9, 0xEA, 0xEB, 0xEC, 0xED, 0xEE, 0xEF] : List Byte).map (fun op => decodeBytes op 0x34 0x12) =
      [.ldhAtA8A 0x34, .popHl, .ldAtCA, .illegal 0xE3, .illegal 0xE4, .pushHl, .andAN8 0x34, .rst20,
       .addSpE8 0x34, .jpHl, .ldAtA16A 0x1234, .illegal 0xEB, .illegal 0xEC, .illegal 0xED, .xorAN8 0x34, .rst28] := by decide

theorem test_decode_primary_row_F :
    ([0xF0, 0xF1, 0xF2, 0xF3, 0xF4, 0xF5, 0xF6, 0xF7, 0xF8, 0xF9, 0xFA, 0xFB, 0xFC, 0xFD, 0xFE, 0xFF] : List Byte).map (fun op => decodeBytes op 0x34 0x12) =
      [.ldhAAtA8 0x34, .popAf, .ldAAtC, .di, .illegal 0xF4, .pushAf, .orAN8 0x34, .rst30,
       .ldHlSpE8 0x34, .ldSpHl, .ldAAtA16 0x1234, .ei, .illegal 0xFC, .illegal 0xFD, .cpAN8 0x34, .rst38] := by decide

theorem test_decode_prefixed_row_0 :
    ([0x00, 0x01, 0x02, 0x03, 0x04, 0x05, 0x06, 0x07, 0x08, 0x09, 0x0A, 0x0B, 0x0C, 0x0D, 0x0E, 0x0F] : List Byte).map (fun op2 => decodeBytes 0xCB op2 0x12) =
      [.rlcB, .rlcC, .rlcD, .rlcE, .rlcH, .rlcL, .rlcAtHl, .rlcA,
       .rrcB, .rrcC, .rrcD, .rrcE, .rrcH, .rrcL, .rrcAtHl, .rrcA] := by decide

theorem test_decode_prefixed_row_1 :
    ([0x10, 0x11, 0x12, 0x13, 0x14, 0x15, 0x16, 0x17, 0x18, 0x19, 0x1A, 0x1B, 0x1C, 0x1D, 0x1E, 0x1F] : List Byte).map (fun op2 => decodeBytes 0xCB op2 0x12) =
      [.rlB, .rlC, .rlD, .rlE, .rlH, .rlL, .rlAtHl, .rlA,
       .rrB, .rrC, .rrD, .rrE, .rrH, .rrL, .rrAtHl, .rrA] := by decide

theorem test_decode_prefixed_row_2 :
    ([0x20, 0x21, 0x22, 0x23, 0x24, 0x25, 0x26, 0x27, 0x28, 0x29, 0x2A, 0x2B, 0x2C, 0x2D, 0x2E, 0x2F] : List Byte).map (fun op2 => decodeBytes 0xCB op2 0x12) =
      [.slaB, .slaC, .slaD, .slaE, .slaH, .slaL, .slaAtHl, .slaA,
       .sraB, .sraC, .sraD, .sraE, .sraH, .sraL, .sraAtHl, .sraA] := by decide

theorem test_decode_prefixed_row_3 :
    ([0x30, 0x31, 0x32, 0x33, 0x34, 0x35, 0x36, 0x37, 0x38, 0x39, 0x3A, 0x3B, 0x3C, 0x3D, 0x3E, 0x3F] : List Byte).map (fun op2 => decodeBytes 0xCB op2 0x12) =
      [.swapB, .swapC, .swapD, .swapE, .swapH, .swapL, .swapAtHl, .swapA,
       .srlB, .srlC, .srlD, .srlE, .srlH, .srlL, .srlAtHl, .srlA] := by decide

theorem test_decode_prefixed_row_4 :
    ([0x40, 0x41, 0x42, 0x43, 0x44, 0x45, 0x46, 0x47, 0x48, 0x49, 0x4A, 0x4B, 0x4C, 0x4D, 0x4E, 0x4F] : List Byte).map (fun op2 => decodeBytes 0xCB op2 0x12) =
      [.bit0B, .bit0C, .bit0D, .bit0E, .bit0H, .bit0L, .bit0AtHl, .bit0A,
       .bit1B, .bit1C, .bit1D, .bit1E, .bit1H, .bit1L, .bit1AtHl, .bit1A] := by decide

theorem test_decode_prefixed_row_5 :
    ([0x50, 0x51, 0x52, 0x53, 0x54, 0x55, 0x56, 0x57, 0x58, 0x59, 0x5A, 0x5B, 0x5C, 0x5D, 0x5E, 0x5F] : List Byte).map (fun op2 => decodeBytes 0xCB op2 0x12) =
      [.bit2B, .bit2C, .bit2D, .bit2E, .bit2H, .bit2L, .bit2AtHl, .bit2A,
       .bit3B, .bit3C, .bit3D, .bit3E, .bit3H, .bit3L, .bit3AtHl, .bit3A] := by decide

theorem test_decode_prefixed_row_6 :
    ([0x60, 0x61, 0x62, 0x63, 0x64, 0x65, 0x66, 0x67, 0x68, 0x69, 0x6A, 0x6B, 0x6C, 0x6D, 0x6E, 0x6F] : List Byte).map (fun op2 => decodeBytes 0xCB op2 0x12) =
      [.bit4B, .bit4C, .bit4D, .bit4E, .bit4H, .bit4L, .bit4AtHl, .bit4A,
       .bit5B, .bit5C, .bit5D, .bit5E, .bit5H, .bit5L, .bit5AtHl, .bit5A] := by decide

theorem test_decode_prefixed_row_7 :
    ([0x70, 0x71, 0x72, 0x73, 0x74, 0x75, 0x76, 0x77, 0x78, 0x79, 0x7A, 0x7B, 0x7C, 0x7D, 0x7E, 0x7F] : List Byte).map (fun op2 => decodeBytes 0xCB op2 0x12) =
      [.bit6B, .bit6C, .bit6D, .bit6E, .bit6H, .bit6L, .bit6AtHl, .bit6A,
       .bit7B, .bit7C, .bit7D, .bit7E, .bit7H, .bit7L, .bit7AtHl, .bit7A] := by decide

theorem test_decode_prefixed_row_8 :
    ([0x80, 0x81, 0x82, 0x83, 0x84, 0x85, 0x86, 0x87, 0x88, 0x89, 0x8A, 0x8B, 0x8C, 0x8D, 0x8E, 0x8F] : List Byte).map (fun op2 => decodeBytes 0xCB op2 0x12) =
      [.res0B, .res0C, .res0D, .res0E, .res0H, .res0L, .res0AtHl, .res0A,
       .res1B, .res1C, .res1D, .res1E, .res1H, .res1L, .res1AtHl, .res1A] := by decide

theorem test_decode_prefixed_row_9 :
    ([0x90, 0x91, 0x92, 0x93, 0x94, 0x95, 0x96, 0x97, 0x98, 0x99, 0x9A, 0x9B, 0x9C, 0x9D, 0x9E, 0x9F] : List Byte).map (fun op2 => decodeBytes 0xCB op2 0x12) =
      [.res2B, .res2C, .res2D, .res2E, .res2H, .res2L, .res2AtHl, .res2A,
       .res3B, .res3C, .res3D, .res3E, .res3H, .res3L, .res3AtHl, .res3A] := by decide

theorem test_decode_prefixed_row_A :
    ([0xA0, 0xA1, 0xA2, 0xA3, 0xA4, 0xA5, 0xA6, 0xA7, 0xA8, 0xA9, 0xAA, 0xAB, 0xAC, 0xAD, 0xAE, 0xAF] : List Byte).map (fun op2 => decodeBytes 0xCB op2 0x12) =
      [.res4B, .res4C, .res4D, .res4E, .res4H, .res4L, .res4AtHl, .res4A,
       .res5B, .res5C, .res5D, .res5E, .res5H, .res5L, .res5AtHl, .res5A] := by decide

theorem test_decode_prefixed_row_B :
    ([0xB0, 0xB1, 0xB2, 0xB3, 0xB4, 0xB5, 0xB6, 0xB7, 0xB8, 0xB9, 0xBA, 0xBB, 0xBC, 0xBD, 0xBE, 0xBF] : List Byte).map (fun op2 => decodeBytes 0xCB op2 0x12) =
      [.res6B, .res6C, .res6D, .res6E, .res6H, .res6L, .res6AtHl, .res6A,
       .res7B, .res7C, .res7D, .res7E, .res7H, .res7L, .res7AtHl, .res7A] := by decide

theorem test_decode_prefixed_row_C :
    ([0xC0, 0xC1, 0xC2, 0xC3, 0xC4, 0xC5, 0xC6, 0xC7, 0xC8, 0xC9, 0xCA, 0xCB, 0xCC, 0xCD, 0xCE, 0xCF] : List Byte).map (fun op2 => decodeBytes 0xCB op2 0x12) =
      [.set0B, .set0C, .set0D, .set0E, .set0H, .set0L, .set0AtHl, .set0A,
       .set1B, .set1C, .set1D, .set1E, .set1H, .set1L, .set1AtHl, .set1A] := by decide

theorem test_decode_prefixed_row_D :
    ([0xD0, 0xD1, 0xD2, 0xD3, 0xD4, 0xD5, 0xD6, 0xD7, 0xD8, 0xD9, 0xDA, 0xDB, 0xDC, 0xDD, 0xDE, 0xDF] : List Byte).map (fun op2 => decodeBytes 0xCB op2 0x12) =
      [.set2B, .set2C, .set2D, .set2E, .set2H, .set2L, .set2AtHl, .set2A,
       .set3B, .set3C, .set3D, .set3E, .set3H, .set3L, .set3AtHl, .set3A] := by decide

theorem test_decode_prefixed_row_E :
    ([0xE0, 0xE1, 0xE2, 0xE3, 0xE4, 0xE5, 0xE6, 0xE7, 0xE8, 0xE9, 0xEA, 0xEB, 0xEC, 0xED, 0xEE, 0xEF] : List Byte).map (fun op2 => decodeBytes 0xCB op2 0x12) =
      [.set4B, .set4C, .set4D, .set4E, .set4H, .set4L, .set4AtHl, .set4A,
       .set5B, .set5C, .set5D, .set5E, .set5H, .set5L, .set5AtHl, .set5A] := by decide

theorem test_decode_prefixed_row_F :
    ([0xF0, 0xF1, 0xF2, 0xF3, 0xF4, 0xF5, 0xF6, 0xF7, 0xF8, 0xF9, 0xFA, 0xFB, 0xFC, 0xFD, 0xFE, 0xFF] : List Byte).map (fun op2 => decodeBytes 0xCB op2 0x12) =
      [.set6B, .set6C, .set6D, .set6E, .set6H, .set6L, .set6AtHl, .set6A,
       .set7B, .set7C, .set7D, .set7E, .set7H, .set7L, .set7AtHl, .set7A] := by decide

/-- The words of the host's numbering: an 8-bit row, a prefixed row with 0xCB first, a 24-bit instruction, and no other width (R133). -/
theorem test_decode_table_word : decodeTableWord 8 0x80 = some .addAB ∧ decodeTableWord 16 0xCB37 = some .swapA ∧
    decodeTableWord 24 0x123408 = some (.ldAtA16Sp 0x1234) ∧ decodeTableWord 12 0x80 = none := by decide

/-- A word placed at reset runs as the first instruction: a primary one and a prefixed one, which CORE does not implement (R302). -/
theorem test_placed_word_runs :
    (match step (State.reset.withFetchWord 8 0x04) with
      | .next t => (t.b, t.pc, t.fault)
      | .fault _ => (0, 0, none)
      | .refused _ => (0, 0, none)) = (0x01, 0x0101, none) ∧
    (match step (State.reset.withFetchWord 16 0xCB37) with
      | .next t => t.fault
      | .fault _ => none
      | .refused _ => none) = some (.unsupportedOpcode ⟨0x0100, [0xCB, 0x37], true⟩) := by decide

/-! ## Single steps, from 95_test_vectors.md -/

/-- The start state of a vector: FULL, a 64 KiB bank-switching cartridge, the instruction at PC = 0x0200. -/
def vector (bytes : List Byte) : State :=
  { State.reset with
    pc := 0x0200
    cart := .bankSwitching ⟨(0x147, 0x01) :: Memory.ofBytes 0x200 bytes, 0x10000⟩ Mbc.initial
    cfg := { Config.standard with profile := .full } }

/-- The same in CORE. -/
def coreVector (bytes : List Byte) : State := { vector bytes with cfg := Config.standard }

/-- The same on a 32 KiB cartridge without banking. -/
def plainVector (bytes : List Byte) : State := { vector bytes with cart := .noBanking ⟨Memory.ofBytes 0x200 bytes, 0x8000⟩ }

/-- What a next state shows. -/
def seen {α : Type} (o : Host.Outcome State Fault Refusal) (f : State → α) : Option α :=
  match o with
  | .next t => some (f t)
  | .fault _ => none
  | .refused _ => none

/-- What two steps show. -/
def seenTwice {α : Type} (s : State) (f : State → α) : Option α :=
  match step s with
  | .next t => seen (step t) f
  | .fault _ => none
  | .refused _ => none

/-- The bank, the mode and the enable of a cartridge. -/
def mbcOf (s : State) : Option Mbc :=
  match s.cart with
  | .absent => none
  | .noBanking _ => none
  | .bankSwitching _ m => some m

/-- V40-1, V40-2, V40-3. -/
theorem test_add :
    seen (step { vector [0x87] with f := 0x00, a := 0x80 }) (fun t => (t.a, t.f)) = some (0x00, 0x90) ∧
    seen (step { vector [0x80] with f := 0x00, a := 0xFF, b := 0x01 }) (fun t => (t.a, t.f)) = some (0x00, 0xB0) ∧
    seen (step { vector [0xC6, 0x00] with f := 0x70, a := 0x00 }) (fun t => (t.a, t.f, t.pc)) = some (0x00, 0x80, 0x0202) := by decide

/-- V40-4, V40-5, V40-28 (CORE). -/
theorem test_adc :
    seen (step { vector [0x8F] with f := 0x10, a := 0x80 }) (fun t => (t.a, t.f)) = some (0x01, 0x10) ∧
    seen (step { vector [0xCE, 0x0F] with f := 0x10, a := 0x00 }) (fun t => (t.a, t.f)) = some (0x10, 0x20) ∧
    seen (step { coreVector [0x88] with f := 0x00, a := 0x01, b := 0x01 }) (fun t => (t.a, t.f, t.pc, t.fault)) = some (0x01, 0x00, 0x0200, some (.unsupportedOpcode ⟨0x0200, [0x88], false⟩)) := by decide

/-- V40-6, V40-7. -/
theorem test_sub :
    seen (step { vector [0x97] with f := 0x30, a := 0x5A }) (fun t => (t.a, t.f)) = some (0x00, 0xC0) ∧
    seen (step { vector [0x90] with f := 0x00, a := 0x00, b := 0x01 }) (fun t => (t.a, t.f)) = some (0xFF, 0x70) := by decide

/-- V40-8 to V40-11. -/
theorem test_sbc :
    seen (step { vector [0x98] with f := 0x10, a := 0x00, b := 0xFF }) (fun t => (t.a, t.f)) = some (0x00, 0xF0) ∧
    seen (step { vector [0x9F] with f := 0x10, a := 0x42 }) (fun t => (t.a, t.f)) = some (0xFF, 0x70) ∧
    seen (step { vector [0x9F] with f := 0x00, a := 0x42 }) (fun t => (t.a, t.f)) = some (0x00, 0xC0) ∧
    seen (step { vector [0xDE, 0x0F] with f := 0x10, a := 0x10 }) (fun t => (t.a, t.f)) = some (0x00, 0xE0) := by decide

/-- V40-12, V40-13. -/
theorem test_cp :
    seen (step { vector [0xFE, 0x01] with f := 0x00, a := 0x00 }) (fun t => (t.a, t.f)) = some (0x00, 0x70) ∧
    seen (step { vector [0xBF] with f := 0x00, a := 0x00 }) (fun t => (t.a, t.f)) = some (0x00, 0xC0) := by decide

/-- V40-14 to V40-16, S3. -/
theorem test_logic :
    seen (step { vector [0xA7] with f := 0x50, a := 0x00 }) (fun t => (t.a, t.f)) = some (0x00, 0xA0) ∧
    seen (step { vector [0xA8] with f := 0x70, a := 0x0F, b := 0xF0 }) (fun t => (t.a, t.f)) = some (0xFF, 0x00) ∧
    seen (step { vector [0xB0] with f := 0x70, a := 0x00, b := 0x00 }) (fun t => (t.a, t.f)) = some (0x00, 0x80) ∧
    seen (step { vector [0xA0] with f := 0x00, a := 0x0F, b := 0xF0 }) (fun t => (t.a, t.f)) = some (0x00, 0xA0) := by decide

/-- V40-17 to V40-20. -/
theorem test_inc_dec_8 :
    seen (step { vector [0x3C] with f := 0x10, a := 0x0F }) (fun t => (t.a, t.f)) = some (0x10, 0x30) ∧
    seen (step { vector [0x3C] with f := 0x40, a := 0x7F }) (fun t => (t.a, t.f)) = some (0x80, 0x20) ∧
    seen (step { vector [0x3D] with f := 0x00, a := 0x10 }) (fun t => (t.a, t.f)) = some (0x0F, 0x60) ∧
    seen (step { vector [0x05] with f := 0x90, b := 0x00 }) (fun t => (t.b, t.f)) = some (0xFF, 0x70) := by decide

/-- V40-21, V40-22 (ROM byte 0 is 09), V40-23. -/
theorem test_inc_dec_memory :
    seen (step { vector [0x34] with f := 0x00, wram0 := [(0, 0xFF)], h := 0xC0, l := 0x00 }) (fun t => (t.read8 0xC000, t.f)) = some (0x00, 0xA0) ∧
    seen (step { vector [0x34] with f := 0x00, h := 0x00, l := 0x00, cart := .bankSwitching ⟨[(0, 0x09), (0x147, 0x01), (0x200, 0x34)], 0x10000⟩ Mbc.initial }) (fun t => (t.f, (mbcOf t).map Mbc.ramEnabled)) = some (0x00, some true) ∧
    seen (step { vector [0x35] with f := 0x00, h := 0xFE, l := 0xA0 }) (fun t => (t.read8 0xFEA0, t.f)) = some (0xFF, 0x40) := by decide

/-- V40-24 to V40-27. -/
theorem test_complement_and_carry :
    seen (step { vector [0x2F] with f := 0x90, a := 0x00 }) (fun t => (t.a, t.f)) = some (0xFF, 0xF0) ∧
    seen (step { vector [0x3F] with f := 0x60 }) (fun t => t.f) = some 0x10 ∧
    seen (step { vector [0x37] with f := 0x80 }) (fun t => t.f) = some 0x90 ∧
    seen (step { coreVector [0x37] with f := 0x80 }) (fun t => (t.f, t.pc, t.fault)) = some (0x80, 0x0200, some (.unsupportedOpcode ⟨0x0200, [0x37], false⟩)) := by decide

/-- V40-29 to V40-31: a subtraction or an addition, then DAA. -/
theorem test_daa_after_arithmetic :
    seenTwice { vector [0xD6, 0x01, 0x27] with f := 0x00, a := 0x20 } (fun t => (t.a, t.f)) = some (0x19, 0x40) ∧
    seenTwice { vector [0xC6, 0x01, 0x27] with f := 0x00, a := 0x99 } (fun t => (t.a, t.f)) = some (0x00, 0x90) ∧
    seenTwice { vector [0xC6, 0x09, 0x27] with f := 0x00, a := 0x09 } (fun t => (t.a, t.f)) = some (0x18, 0x00) := by decide

/-- V40-32 and the corner case and example of R186. -/
theorem test_daa :
    seen (step { vector [0x27] with f := 0x70, a := 0x00 }) (fun t => (t.a, t.f)) = some (0x9A, 0x50) ∧
    seen (step { vector [0x27] with f := 0x00, a := 0x9A }) (fun t => (t.a, t.f)) = some (0x00, 0x90) ∧
    seen (step { vector [0x27] with f := 0x00, a := 0x7D }) (fun t => (t.a, t.f)) = some (0x83, 0x00) := by decide

/-- V41-1 to V41-3. -/
theorem test_add_hl :
    seen (step { vector [0x29] with f := 0x40, h := 0x80, l := 0x00 }) (fun t => (t.hl, t.f)) = some (0x0000, 0x10) ∧
    seen (step { vector [0x39] with f := 0x00, h := 0xFF, l := 0xFF, sp := 0x0001 }) (fun t => (t.hl, t.f)) = some (0x0000, 0x30) ∧
    seen (step { vector [0x19] with f := 0x80, h := 0x00, l := 0xFF, d := 0x00, e := 0x01 }) (fun t => (t.hl, t.f)) = some (0x0100, 0x80) := by decide

/-- V41-4 to V41-6. -/
theorem test_add_sp :
    seen (step { vector [0xE8, 0xFF] with f := 0xF0, sp := 0x0000 }) (fun t => (t.sp, t.f)) = some (0xFFFF, 0x00) ∧
    seen (step { vector [0xE8, 0xFF] with f := 0x00, sp := 0x0001 }) (fun t => (t.sp, t.f)) = some (0x0000, 0x30) ∧
    seen (step { vector [0xE8, 0x80] with f := 0x00, sp := 0x0080 }) (fun t => (t.sp, t.f)) = some (0x0000, 0x10) := by decide

/-- V41-7 to V41-9. -/
theorem test_inc_dec_16 :
    seen (step { vector [0x33] with f := 0xF0, sp := 0xFFFF }) (fun t => (t.sp, t.f)) = some (0x0000, 0xF0) ∧
    seen (step { vector [0x0B] with f := 0x00, b := 0x00, c := 0x00 }) (fun t => (t.bc, t.f)) = some (0xFFFF, 0x00) ∧
    seen (step { vector [0x23] with f := 0x00, h := 0x00, l := 0xFF }) (fun t => (t.h, t.l)) = some (0x01, 0x00) := by decide

/-- V42-1 to V42-5. -/
theorem test_jr :
    seen (step (vector [0x18, 0xFE])) (fun t => t.pc) = some 0x0200 ∧
    seen (step { vector [0x20, 0x10] with f := 0x80 }) (fun t => t.pc) = some 0x0202 ∧
    seen (step { vector [0x28, 0x10] with f := 0x80 }) (fun t => t.pc) = some 0x0212 ∧
    seen (step { vector [0x38, 0xF0] with f := 0x10 }) (fun t => t.pc) = some 0x01F2 ∧
    seen (step { vector [0x30, 0xF0] with f := 0x10 }) (fun t => t.pc) = some 0x0202 := by decide

/-- V42-6, V42-7, V42-15, S1. -/
theorem test_jp :
    seen (step { vector [0xDA, 0x34, 0x12] with f := 0x10 }) (fun t => t.pc) = some 0x1234 ∧
    seen (step { vector [0xC2, 0x34, 0x12] with f := 0x80 }) (fun t => t.pc) = some 0x0203 ∧
    seen (step { vector [0xE9] with h := 0xFE, l := 0xA0 }) (fun t => t.pc) = some 0xFEA0 ∧
    seen (step (vector [0xC3, 0x50, 0x01])) (fun t => t.pc) = some 0x0150 := by decide

/-- V42-8, V42-9, S1. -/
theorem test_call :
    seen (step { vector [0xCD, 0x34, 0x12] with sp := 0x0000 }) (fun t => (t.sp, t.read8 0xFFFE, t.read8 0xFFFF, t.pc)) = some (0xFFFE, 0x03, 0x02, 0x1234) ∧
    seen (step { vector [0xCC, 0x34, 0x12] with f := 0x80, sp := 0xD000 }) (fun t => (t.sp, t.read8 0xCFFE, t.read8 0xCFFF, t.pc)) = some (0xCFFE, 0x03, 0x02, 0x1234) ∧
    seen (step { vector [0xC4, 0x50, 0x01] with f := 0x80, sp := 0xD000 }) (fun t => (t.sp, t.pc)) = some (0xD000, 0x0203) := by decide

/-- V42-10, V45-6 (CORE). -/
theorem test_ret :
    seen (step { vector [0xD0] with f := 0x10, sp := 0xD000 }) (fun t => (t.sp, t.pc)) = some (0xD000, 0x0201) ∧
    seen (step { coreVector [0xD9] with sp := 0xCFFE, wram0 := [(0xFFF, 0x03)] }) (fun t => (t.pc, t.sp, t.ime)) = some (0x0300, 0xD000, true) := by decide

/-- V42-11 (at 0300), V42-12. -/
theorem test_rst :
    seen (step { vector [] with pc := 0x0300, sp := 0xD000, cart := .bankSwitching ⟨[(0x147, 0x01), (0x300, 0xCF)], 0x10000⟩ Mbc.initial }) (fun t => (t.sp, t.read8 0xCFFE, t.read8 0xCFFF, t.pc)) = some (0xCFFE, 0x01, 0x03, 0x0008) ∧
    seen (step { vector [0xC7] with sp := 0xD000 }) (fun t => (t.sp, t.read8 0xCFFE, t.read8 0xCFFF, t.pc)) = some (0xCFFE, 0x01, 0x02, 0x0000) := by decide

/-- V42-13, V42-14: the instruction stands in high RAM. -/
theorem test_pc_wraps :
    seen (step { vector [] with pc := 0xFFFF }) (fun t => t.pc) = some 0x0000 ∧
    seen (step { vector [] with pc := 0xFFFE, hram := [(0x7E, 0x18), (0x7F, 0x01)] }) (fun t => t.pc) = some 0x0001 := by decide

/-- V43-1, V43-3 (no banking), S8. -/
theorem test_push :
    seen (step { vector [0xF5] with f := 0xB0, a := 0x12, sp := 0xD000 }) (fun t => (t.sp, t.read8 0xCFFE, t.read8 0xCFFF)) = some (0xCFFE, 0xB0, 0x12) ∧
    seen (step { plainVector [0xE5] with h := 0xBE, l := 0xEF, sp := 0x0002 }) (fun t => (t.sp, t.read8 0x0000, t.read8 0x0001)) = some (0x0000, 0x00, 0x00) ∧
    seen (step { vector [0xC5] with b := 0x12, c := 0x34 }) (fun t => (t.sp, t.read8 0xFFFC, t.read8 0xFFFD)) = some (0xFFFC, 0x34, 0x12) := by decide

/-- V43-2, V43-4, S3. -/
theorem test_pop :
    seen (step { vector [0xC1] with sp := 0xFFFE, hram := [(0x7E, 0x34), (0x7F, 0x12)] }) (fun t => (t.bc, t.sp)) = some (0x1234, 0x0000) ∧
    seen (step { vector [0xF1] with sp := 0xC000, wram0 := [(0, 0x0F)] }) (fun t => (t.a, t.f, t.sp)) = some (0x00, 0x00, 0xC002) ∧
    seen (step { vector [0xF1] with sp := 0xC000, wram0 := [(0, 0xAF)] }) (fun t => t.f) = some 0xA0 := by decide

/-- V44-1, V44-11, V44-12. -/
theorem test_load_a :
    seen (step { vector [0x2A] with h := 0xFF, l := 0xFF, hram := [(0x7F, 0x77)] }) (fun t => (t.a, t.hl)) = some (0x77, 0x0000) ∧
    seen (step (vector [0xFA, 0x00, 0xA0])) (fun t => t.a) = some 0xFF ∧
    seen (step (plainVector [0xFA, 0x00, 0xA0])) (fun t => t.a) = some 0xFF := by decide

/-- V44-2 (no banking), V44-6 to V44-8. -/
theorem test_store_a :
    seen (step { plainVector [0x32] with h := 0x00, l := 0x00, a := 0x55 }) (fun t => (t.hl, t.read8 0x0000)) = some (0xFFFF, 0x00) ∧
    seen (step { vector [0xE2] with c := 0x04, a := 0x99 }) (fun t => t.read8 0xFF04) = some 0x00 ∧
    seen (step { vector [0xE0, 0x44] with a := 0x99 }) (fun t => t.read8 0xFF44) = some 0x00 ∧
    seen (step { vector [0xE0, 0x0F] with a := 0x00 }) (fun t => t.read8 0xFF0F) = some 0xE0 := by decide

/-- V44-9, V44-10. -/
theorem test_store_a_absolute :
    seen (step { vector [0xEA, 0x00, 0xE0] with a := 0x42 }) (fun t => (t.read8 0xC000, t.read8 0xE000)) = some (0x42, 0x42) ∧
    seen (step { vector [0xEA, 0xA0, 0xFE] with a := 0x42 }) (fun t => t.read8 0xFEA0) = some 0xFF := by decide

/-- V44-3, V44-4, V44-15, V44-16, S1. -/
theorem test_load_8 :
    seen (step { vector [0x66] with wram0 := [(0, 0x12)], h := 0xC0, l := 0x00 }) (fun t => t.hl) = some 0x1200 ∧
    seen (step { vector [0x74] with h := 0xC0, l := 0x00 }) (fun t => t.read8 0xC000) = some 0xC0 ∧
    seen (step { vector [0x36, 0x07] with h := 0x60, l := 0x00 }) (fun t => (mbcOf t).map Mbc.bankingMode) = some (some .ramBanking) ∧
    seen (step { vector [0x7F] with f := 0x50, a := 0x3C }) (fun t => (t.a, t.f)) = some (0x3C, 0x50) ∧
    seen (step (vector [0x06, 0x05])) (fun t => (t.b, t.pc)) = some (0x05, 0x0202) := by decide

/-- V44-5, V44-13, V44-14, S2. -/
theorem test_load_16 :
    seen (step { vector [0x08, 0xFF, 0xFF] with sp := 0x0AFE }) (fun t => (t.read8 0xFFFF, (mbcOf t).map Mbc.ramEnabled)) = some (0xFE, some true) ∧
    seen (step { vector [0xF8, 0x01] with f := 0x80, sp := 0xFFFF }) (fun t => (t.hl, t.f)) = some (0x0000, 0x30) ∧
    seen (step { vector [0xF8, 0xFE] with f := 0x00, sp := 0x0001 }) (fun t => (t.hl, t.f)) = some (0xFFFF, 0x00) ∧
    seen (step (vector [0x01, 0x34, 0x12])) (fun t => (t.b, t.c, t.bc, t.pc)) = some (0x12, 0x34, 0x1234, 0x0203) := by decide

/-- V45-1, V45-3: STOP and HALT, then a step that makes no progress. -/
theorem test_stop_and_halt :
    seenTwice (vector [0x10, 0x00]) (fun t => (t.pc, t.run, t.fault)) = some (0x0202, .stopped, none) ∧
    seenTwice (vector [0x76]) (fun t => (t.pc, t.run)) = some (0x0201, .halted) := by decide

/-- V45-5, S9: an illegal opcode, then a step that returns the same fault. -/
theorem test_illegal_opcode_is_sticky :
    seen (step (vector [0xD3])) (fun t => (t.pc, t.fault)) = some (0x0200, some (.illegalOpcode ⟨0x0200, [0xD3], false⟩)) ∧
    seen (step (vector [0xD3])) step = some (.fault (.illegalOpcode ⟨0x0200, [0xD3], false⟩)) := ⟨by decide, rfl⟩

/-- V45-2 (CORE), V45-4 (CORE), S1. -/
theorem test_system :
    seen (step { coreVector [0xF3] with ime := true }) (fun t => (t.ime, t.pc)) = some (false, 0x0201) ∧
    seen (step { coreVector [0xCB, 0x7C] with f := 0x00 }) (fun t => (t.pc, t.f, t.fault)) = some (0x0200, 0x00, some (.unsupportedOpcode ⟨0x0200, [0xCB, 0x7C], true⟩)) ∧
    seen (step (vector [0x00])) (fun t => t.pc) = some 0x0201 ∧
    seen (step (vector [0xFB])) (fun t => t.ime) = some true := by decide

/-- V46-1, V46-2. -/
theorem test_rotate_a :
    seen (step { vector [0x07] with f := 0x80, a := 0x00 }) (fun t => (t.a, t.f)) = some (0x00, 0x00) ∧
    seen (step { vector [0x1F] with f := 0x00, a := 0x01 }) (fun t => (t.a, t.f)) = some (0x00, 0x10) := by decide

/-- V46-3 to V46-5, V46-7, V46-11. -/
theorem test_shift_register :
    seen (step { vector [0xCB, 0x20] with f := 0x00, b := 0x80 }) (fun t => (t.b, t.f)) = some (0x00, 0x90) ∧
    seen (step { vector [0xCB, 0x28] with f := 0x00, b := 0x01 }) (fun t => (t.b, t.f)) = some (0x00, 0x90) ∧
    seen (step { vector [0xCB, 0x37] with f := 0x30, a := 0x00 }) (fun t => (t.a, t.f)) = some (0x00, 0x80) ∧
    seen (step { vector [0xCB, 0x1F] with f := 0x00, a := 0x01 }) (fun t => (t.a, t.f)) = some (0x00, 0x90) ∧
    seen (step { vector [0xCB, 0x38] with f := 0x00, b := 0x01 }) (fun t => (t.b, t.f)) = some (0x00, 0x90) := by decide

/-- V46-6, V46-12. -/
theorem test_shift_memory :
    seen (step { vector [0xCB, 0x16] with f := 0x10, wram0 := [(0, 0x80)], h := 0xC0, l := 0x00 }) (fun t => (t.read8 0xC000, t.f)) = some (0x01, 0x10) ∧
    seen (step { vector [0xCB, 0x06] with f := 0x10, h := 0xC0, l := 0x00 }) (fun t => (t.read8 0xC000, t.f)) = some (0x00, 0x80) := by decide

/-- V46-8 to V46-10. -/
theorem test_bit_operations :
    seen (step { vector [0xCB, 0x46] with f := 0x50, wram0 := [(0, 0x01)], h := 0xC0, l := 0x00 }) (fun t => t.f) = some 0x30 ∧
    seen (step { vector [0xCB, 0xBF] with f := 0x00, a := 0x80 }) (fun t => (t.a, t.f)) = some (0x00, 0x00) ∧
    seen (step { vector [0xCB, 0xC6] with h := 0x40, l := 0x00 }) (fun t => ((mbcOf t).map Mbc.bank2, t.read8 0x4000)) = some (some 1, 0xFF) := by decide

/-! ## The bus and the loader, from 95_test_vectors.md -/

/-- The cartridge of the bus vectors: 2 MiB, the first byte of each bank its number and the second 0xA0 with the low nibble of it. -/
def markers : State :=
  { State.reset with
    cart := .bankSwitching ⟨(1, 0xA0) :: (List.range 127).flatMap fun k =>
      [((k + 1) * 0x4000, BitVec.ofNat 8 (k + 1)), ((k + 1) * 0x4000 + 1, 0xA0 ||| BitVec.ofNat 8 ((k + 1) % 16))], 0x200000⟩ Mbc.initial }

/-- Store a list of bytes, one after another. -/
def writes (s : State) (l : List (Word × Byte)) : State := l.foldl (fun t w => t.write8 w.1 w.2) s

/-- V20-1, V20-2: the low bank register and the zero guard. -/
theorem test_rom_bank :
    markers.read8 0x4000 = 0x01 ∧ (writes markers [(0x2000, 0x05)]).read8 0x4000 = 0x05 ∧ (writes markers [(0x2000, 0x00)]).read8 0x4000 = 0x01 ∧
    (writes markers [(0x2000, 0x1F)]).read8 0x4000 = 0x1F ∧ (writes markers [(0x3FFF, 0xE2)]).read8 0x4000 = 0x02 := by decide

/-- V20-3, V20-4: the second bank register in both modes. -/
theorem test_second_bank_register :
    (writes markers [(0x4000, 0x01), (0x2000, 0x00)]).read8 0x4000 = 0x20 ∧ (writes markers [(0x5FFF, 0x03), (0x2000, 0x03)]).read8 0x4000 = 0x63 ∧
    (writes markers [(0x4000, 0x02), (0x2000, 0x04), (0x6000, 0x01)]).read8 0x4000 = 0x04 ∧
    (writes markers [(0x4000, 0x02), (0x2000, 0x04), (0x6000, 0x01)]).read8 0x0000 = 0x00 ∧
    (writes markers [(0x4000, 0x02), (0x2000, 0x04), (0x6000, 0x01), (0x6000, 0x00)]).read8 0x4000 = 0x44 := by decide +kernel

/-- V20-5, V20-6: external RAM, its enable and its banks. -/
theorem test_external_ram :
    (writes markers [(0xA000, 0x12)]).read8 0xA000 = 0xFF ∧ (writes markers [(0xA000, 0x12), (0x0000, 0x0A)]).read8 0xA000 = 0x00 ∧
    (writes markers [(0x1FFF, 0x1A), (0xA000, 0x12)]).read8 0xA000 = 0x12 ∧ (writes markers [(0x0000, 0x0A), (0x0000, 0xA0)]).read8 0xA000 = 0xFF ∧
    (writes markers [(0x0000, 0x0A), (0xA000, 0x11), (0x4000, 0x02), (0xA000, 0x22), (0x6000, 0x01)]).read8 0xA000 = 0x00 ∧
    (writes markers [(0x0000, 0x0A), (0x4000, 0x02), (0xA000, 0x22), (0x6000, 0x01), (0xA000, 0x33), (0x6000, 0x00)]).read8 0xA000 = 0x22 := by decide

/-- V20-7, V20-8, V20-15: the echo, the unusable region, video RAM and the sprite table. -/
theorem test_bus_regions :
    (writes markers [(0xC010, 0x42)]).read8 0xE010 = 0x42 ∧ (writes markers [(0xFDFF, 0x99)]).read8 0xDDFF = 0x99 ∧
    (writes markers [(0xE000, 0x07)]).read8 0xC000 = 0x07 ∧ (writes markers [(0xFEA0, 0x00)]).read8 0xFEA0 = 0xFF ∧
    markers.read8 0xFEFF = 0xFF ∧ (writes markers [(0x8000, 0x77)]).read8 0x8000 = 0x77 ∧ (writes markers [(0x9FFF, 0x66)]).read8 0x9FFF = 0x66 ∧
    (writes markers [(0xFE9F, 0x55)]).read8 0xFE9F = 0x55 := by decide

/-- V20-9: the side effects of the I/O block, and IE. -/
theorem test_io_side_effects :
    (writes markers [(0xFF0F, 0x01)]).read8 0xFF0F = 0xE1 ∧ (writes markers [(0xFF04, 0x5A)]).read8 0xFF04 = 0x00 ∧
    (writes markers [(0xFF44, 0x90)]).read8 0xFF44 = 0x00 ∧ (writes markers [(0xFF01, 0x5A)]).read8 0xFF01 = 0x5A ∧
    (writes markers [(0xFFFF, 0x1F)]).read8 0xFFFF = 0x1F := by decide

/-- V20-10 (no banking), V20-11: 16-bit writes, with wrap. -/
theorem test_word_writes :
    ((plainVector []).write16 0xFFFF 0x1234).read8 0xFFFF = 0x34 ∧ ((plainVector []).write16 0xFFFF 0x1234).read8 0x0000 = 0x00 ∧
    ((vector []).write16 0xC100 0xBEEF).read8 0xC100 = 0xEF ∧ ((vector []).write16 0xC100 0xBEEF).read8 0xC101 = 0xBE := by decide

/-- V20-12: the first and the last byte of a DMA copy, and the value it stores. -/
theorem test_dma :
    (writes markers [(0xC000, 0x01), (0xC09F, 0x9F), (0xC0A0, 0xAA), (0xFF46, 0xC0)]).read8 0xFE00 = 0x01 ∧
    (writes markers [(0xC000, 0x01), (0xC09F, 0x9F), (0xC0A0, 0xAA), (0xFF46, 0xC0)]).read8 0xFE9F = 0x9F ∧
    (writes markers [(0xFF46, 0xC0)]).read8 0xFF46 = 0xC0 := by decide +kernel

/-- V20-14: a cartridge without banking. -/
theorem test_no_banking :
    (writes (plainVector []) [(0x2000, 0x05)]).read8 0x4000 = 0x00 ∧ (plainVector []).read8 0xA000 = 0xFF := by decide

/-- An image of zeros but for the controller byte, `len` bytes long. -/
def image (len : Nat) (kind : Byte) : List Byte := List.replicate 0x147 0x00 ++ kind :: List.replicate (len - 0x148) 0x00

theorem image_length {len : Nat} (h : 0x148 ≤ len) (kind : Byte) : (image len kind).length = len := by
  unfold image
  rw [List.length_append, List.length_cons, List.length_replicate, List.length_replicate]
  omega

theorem image_kind (len : Nat) (kind : Byte) : (image len kind)[0x147]? = some kind := by
  unfold image
  rw [List.getElem?_append_right (by rw [List.length_replicate]), List.length_replicate]
  rfl

/-- V70-1 to V70-3: images too short or of an unknown kind. -/
theorem test_load_errors :
    loadCartridge (List.replicate 0x147 0x00) State.reset = .failed (.truncated 0x147) ∧
    loadCartridge (image 0x148 0x05) State.reset = .failed (.unknownController 0x05) ∧
    loadCartridge (image 0x148 0x00) State.reset = .failed (.truncated 0x148) := by decide +kernel

/-- V70-8: the reset state. -/
theorem test_reset :
    (State.reset.a, State.reset.f, State.reset.bc, State.reset.de, State.reset.hl, State.reset.sp, State.reset.pc) =
      (0x01, 0xB0, 0x0013, 0x00D8, 0x014D, 0xFFFE, 0x0100) ∧ State.reset.read8 0xFFFF = 0x00 ∧ State.reset.ime = false := by decide

/-! ## Witnesses: for every statement with hypotheses, terms that meet them -/

/-- Every memory of a vector is in form. -/
theorem test_vector_memory : (vector [0x00]).memoryWf :=
  ⟨fun st => by cases st <;> decide, by decide, by decide⟩

/-- A vector is ready, in both profiles and with both controllers. -/
theorem test_vectors_are_ready : (vector [0x80]).ready ∧ (coreVector [0x80]).ready ∧ (plainVector [0x80]).ready :=
  ⟨⟨by decide, by decide, by decide⟩, ⟨by decide, by decide, by decide⟩, ⟨by decide, by decide, by decide⟩⟩

/-- The profiles, for every statement about FULL or CORE: AdcResult, ComplementAndCarryFlags, DecimalAdjustResult, SystemInstructions, RotateAResult, ShiftResult, BitResult, PrefixCbPerformsThePrefixedInstruction. -/
theorem test_witness_profiles : (vector [0x88]).cfg.profile = .full ∧ (coreVector [0x88]).cfg.profile = .core := by decide

theorem test_witness_decode_inverts_encode :
    (Instr.ldAtA16Sp 0xFFFF).wf = true ∧ (Instr.jrE8 0x80).wf = true ∧ (Instr.illegal 0xFD).wf = true ∧ (Instr.set7A).wf = true := by decide

theorem test_witness_step_runs : (vector [0x80]).ready ∧
    decode [(vector [0x80]).read8 (vector [0x80]).pc, (vector [0x80]).read8 ((vector [0x80]).pc + 1), (vector [0x80]).read8 ((vector [0x80]).pc + 2)] =
      .ok (.addAB, [0x00, 0x00]) ∧ Instr.addAB.wf = true :=
  ⟨test_vectors_are_ready.1, by rfl, by rfl⟩

theorem test_witness_step_without_execution :
    State.reset.cart = .absent ∧
    ({ vector [] with fault := some (.illegalOpcode ⟨0x0200, [0xDD], false⟩) }.cart ≠ .absent ∧
      { vector [] with fault := some (.illegalOpcode ⟨0x0200, [0xDD], false⟩) }.fault = some (.illegalOpcode ⟨0x0200, [0xDD], false⟩)) ∧
    ({ vector [] with run := .halted }.cart ≠ .absent ∧ { vector [] with run := .halted }.fault = none ∧ { vector [] with run := .halted }.run ≠ .running) := by
  decide

/-- An answer of each kind: ok, an error raised, an error returned again, no progress, and no move. -/
theorem test_witness_host_step_answers :
    (vector [0x00]).hostStep.map Prod.fst = some .ok ∧
    (vector [0xDD]).hostStep.map Prod.fst = some (.error (.illegalOpcode ⟨0x0200, [0xDD], false⟩)) ∧
    ({ vector [] with fault := some (.illegalOpcode ⟨0x0200, [0xDD], false⟩) } : State).hostStep.map Prod.fst =
      some (.error (.illegalOpcode ⟨0x0200, [0xDD], false⟩)) ∧
    ({ vector [] with run := .stopped } : State).hostStep.map Prod.fst = some .noProgress ∧ State.reset.hostStep = none := by decide

theorem test_witness_illegal_opcode :
    ((vector [0xD3]).ready ∧ (vector [0xD3]).read8 (vector [0xD3]).pc = 0xD3) ∧ (coreVector [0xFD]).ready ∧ (coreVector [0xFD]).read8 (coreVector [0xFD]).pc = 0xFD :=
  ⟨⟨⟨by decide, by decide, by decide⟩, by decide⟩, ⟨by decide, by decide, by decide⟩, by decide⟩

theorem test_witness_other_opcode : (vector [0xCB]).ready ∧
    (vector [0xCB]).read8 (vector [0xCB]).pc ∉ [(0xD3 : Byte), 0xDB, 0xDD, 0xE3, 0xE4, 0xEB, 0xEC, 0xED, 0xF4, 0xFC, 0xFD] ∧
    ∃ t, step (vector [0xCB]) = .next t :=
  ⟨⟨by decide, by decide, by decide⟩, by decide, _, rfl⟩

theorem test_witness_unsupported_opcode :
    ((coreVector [0x07]).ready ∧ (coreVector [0x07]).cfg.profile = .core ∧ (coreVector [0x07]).read8 (coreVector [0x07]).pc = 0x07) ∧
    ((coreVector [0xFB]).ready ∧ (coreVector [0xFB]).cfg.profile = .core ∧ (coreVector [0xFB]).read8 (coreVector [0xFB]).pc = 0xFB) ∧
    ((coreVector [0xCB]).ready ∧ (coreVector [0xCB]).cfg.profile = .core ∧ (coreVector [0xCB]).read8 (coreVector [0xCB]).pc = 0xCB) ∧
    ((coreVector [0x04]).ready ∧ (coreVector [0x04]).cfg.profile = .core ∧
      (coreVector [0x04]).read8 (coreVector [0x04]).pc ∉ [(0x07 : Byte), 0x0F, 0x17, 0x1F, 0x27, 0x37, 0x76, 0x88, 0x89, 0x8A, 0x8B, 0x8C, 0x8D, 0x8E, 0x8F,
        0xCB, 0xCE, 0xFB] ∧ ∃ t, step (coreVector [0x04]) = .next t) ∧
    ((vector [0xCB]).ready ∧ (vector [0xCB]).cfg.profile = .full ∧ ∃ t, step (vector [0xCB]) = .next t) :=
  ⟨⟨⟨by decide, by decide, by decide⟩, by decide, by decide⟩, ⟨⟨by decide, by decide, by decide⟩, by decide, by decide⟩,
    ⟨⟨by decide, by decide, by decide⟩, by decide, by decide⟩, ⟨⟨by decide, by decide, by decide⟩, by decide, by decide, _, rfl⟩,
    ⟨by decide, by decide, by decide⟩, by decide, _, rfl⟩

/-- ResetMeetsTheInvariants: parameters whose external RAM is one byte and whose MEM_INIT is not the default, and a byte of the core they give (R41). -/
theorem test_witness_parameters :
    0 < (Config.mk .full 0 0 0 1 0xAA).extRamSize ∧ (State.construct (.mk .full 0 0 0 1 0xAA)).read8 0xFF44 = 0xAA ∧
      (State.construct (.mk .full 0 0 0 1 0xAA)).read8 0xFFFF = 0xAA := by decide

theorem test_witness_implemented :
    (Instr.adcAB.wf = true ∧ Instr.adcAB.implemented (vector []).cfg.profile = true) ∧
    (Instr.addAB.wf = true ∧ Instr.addAB.implemented (coreVector []).cfg.profile = true) ∧ Instr.adcAB.implemented (coreVector []).cfg.profile = false := by decide

/-- An instruction that raises each fault. -/
theorem test_witness_fault_raised :
    (∃ t, exec (.illegal 0xDD) (vector []) = .next t ∧ t.fault ≠ (vector []).fault) ∧
    ∃ t, exec .adcAB (coreVector []) = .next t ∧ t.fault ≠ (coreVector []).fault :=
  ⟨⟨_, rfl, by decide⟩, _, rfl, by decide⟩

/-- A step from a state that meets every invariant: StepKeepsMemoryInForm, StepKeepsFlagNibbleZero, StepKeepsFaultAddressAndDescriptor, StepKeepsConfigurationAndImage. -/
theorem test_witness_invariants :
    (vector [0x00]).memoryWf ∧ (vector [0x00]).flagsClean ∧ (vector [0x00]).faultAtPc ∧ (vector [0x00]).decodedKnown ∧ ∃ t, step (vector [0x00]) = .next t :=
  ⟨test_vector_memory, (by rfl : (vector [0x00]).f &&& 0x0F = 0), fun _ h => absurd h nofun, .inl rfl, _, rfl⟩

theorem test_witness_run_changes :
    (∃ t, exec (.stop 0x00) (coreVector []) = .next t ∧ t.run ≠ (coreVector []).run) ∧ (∃ t, exec .halt (vector []) = .next t ∧ t.run ≠ (vector []).run) ∧
    ({ vector [] with run := .stopped }.run ≠ .running ∧ ∃ t, step { vector [] with run := .stopped } = .next t) :=
  ⟨⟨_, rfl, by decide⟩, ⟨_, rfl, by decide⟩, by decide, _, rfl⟩

theorem test_witness_ime_changes :
    (∃ t, exec .di { vector [] with ime := true } = .next t ∧ t.ime ≠ true) ∧ (∃ t, exec .ei (vector []) = .next t ∧ t.ime ≠ (vector []).ime) ∧
    ∃ t, exec .reti (vector []) = .next t ∧ t.ime ≠ (vector []).ime :=
  ⟨⟨_, rfl, by decide⟩, ⟨_, rfl, by decide⟩, _, rfl, by decide⟩

theorem test_witness_sp_changes :
    (∃ t, exec (.ldSpN16 0x1234) (vector []) = .next t ∧ t.sp ≠ (vector []).sp) ∧ (∃ t, exec .incSp (vector []) = .next t ∧ t.sp ≠ (vector []).sp) ∧
    (∃ t, exec (.addSpE8 0x01) (vector []) = .next t ∧ t.sp ≠ (vector []).sp) ∧ ∃ t, exec .ret (vector []) = .next t ∧ t.sp ≠ (vector []).sp :=
  ⟨⟨_, rfl, by decide⟩, ⟨_, rfl, by decide⟩, ⟨_, rfl, by decide⟩, _, rfl, by decide⟩

/-- FlagsFollowTheDescriptor and PcAdvancesByTheLength: an instruction with each flag policy, in both profiles. -/
theorem test_witness_flags_and_length :
    (∃ d t, Instr.cpl.wf = true ∧ Instr.cpl.descriptor = some d ∧ d.implemented (coreVector []).cfg.profile = true ∧
      d.mnemonic ∉ [Mnemonic.jp, .jr, .call, .ret, .reti, .rst] ∧ exec .cpl (coreVector []) = .next t) ∧
    ∃ d t, (Instr.adcAN8 0x01).wf = true ∧ (Instr.adcAN8 0x01).descriptor = some d ∧ d.implemented (vector []).cfg.profile = true ∧
      d.mnemonic ∉ [Mnemonic.jp, .jr, .call, .ret, .reti, .rst] ∧ exec (.adcAN8 0x01) (vector []) = .next t :=
  ⟨⟨_, _, rfl, rfl, rfl, by decide, rfl⟩, _, _, rfl, rfl, rfl, by decide, rfl⟩

/-- StoresFrameMemory: a store to each kind of region that cannot reach a byte elsewhere, and an instruction that stores nothing. -/
theorem test_witness_store_frame :
    (vector [0x00]).memoryWf ∧ (∃ t, exec (.ldAtA16A 0x8000) (vector [0x00]) = .next t) ∧
    ¬ (vector [0x00]).mayChange 0x8000 0x8001 ∧ ¬ (vector [0x00]).mayChange 0x7FFF 0xC000 ∧ ¬ (vector [0x00]).mayChange 0xA000 0xA001 ∧
    ¬ (vector [0x00]).mayChange 0xFF46 0xFEFF ∧ ¬ (vector [0x00]).mayChange 0xFEA0 0xFEA0 ∧
    storeAddresses (.ldAtA16A 0x8000) (vector [0x00]) = [0x8000] ∧ storeAddresses .addAAtHl (vector [0x00]) = [] := by
  refine ⟨test_vector_memory, ⟨_, rfl⟩, ?_, ?_, ?_, ?_, ?_, rfl, rfl⟩
  · rintro (h | ⟨h, -⟩)
    · exact absurd h (by unfold sameByte; decide)
    · cases h
  · rintro ⟨_, _, _, h | h⟩ <;> exact absurd h (by decide)
  · rintro ⟨-, h⟩; exact absurd h (by decide)
  · rintro (h | ⟨-, -, k, h⟩)
    · exact absurd h (by unfold sameByte; decide)
    · exact absurd (show Region.unusable = _ from h) nofun
  · exact id

/-- LoadCartridge: a core that has a cartridge, images too short, an unknown kind, both known kinds too short, and both kinds at the least length. -/
theorem test_witness_load_cartridge :
    (vector []).cart ≠ .absent ∧ State.reset.cart = .absent ∧ (List.replicate 0x147 (0x00 : Byte)).length = 0x147 ∧
    (image 0x148 0x04)[0x147]? = some 0x04 ∧ (image 0x148 0x00)[0x147]? = some 0x00 ∧ (image 0x148 0x00).length = 0x148 ∧
    (image 0x7FFF 0x01).length = 0x7FFF ∧ ((image 0x8000 0x00)[0x147]? = some 0x00 ∧ (image 0x8000 0x00).length = 0x8000) ∧
    (image 0x8000 0x03)[0x147]? = some 0x03 ∧ (image 0x8000 0x03).length = 0x8000 :=
  ⟨by decide, rfl, List.length_replicate, image_kind _ _, image_kind _ _, image_length (by decide) _, image_length (by decide) _,
    ⟨image_kind _ _, image_length (by decide) _⟩, image_kind _ _, image_length (by decide) _⟩

/-- EchoAndUnusableRegion, StorageReadsBack, IoWriteSideEffects: addresses at both ends of each range. -/
theorem test_witness_address_ranges :
    (0xE000 ≤ (0xE000 : Word).toNat ∧ (0xE000 : Word).toNat ≤ 0xFDFF) ∧ (0xE000 ≤ (0xFDFF : Word).toNat ∧ (0xFDFF : Word).toNat ≤ 0xFDFF) ∧
    (0xFEA0 ≤ (0xFEA0 : Word).toNat ∧ (0xFEFF : Word).toNat ≤ 0xFEFF) ∧ (0x8000 ≤ (0x8000 : Word).toNat ∧ (0x9FFF : Word).toNat ≤ 0x9FFF) ∧
    (0xC000 ≤ (0xC000 : Word).toNat ∧ (0xDFFF : Word).toNat ≤ 0xDFFF) ∧ (0xFE00 ≤ (0xFE00 : Word).toNat ∧ (0xFE9F : Word).toNat ≤ 0xFE9F) ∧
    0xFF80 ≤ (0xFF80 : Word).toNat ∧ 0xFF80 ≤ (0xFFFF : Word).toNat ∧
    (0xFF00 ≤ (0xFF00 : Word).toNat ∧ (0xFF7F : Word).toNat ≤ 0xFF7F ∧ (0xFF00 : Word) ≠ 0xFF46 ∧ (0xFF7F : Word) ≠ 0xFF46) := by decide

/-- ControllerRegisterWrites, RomWindows, ExternalRam, NoBankingController: a cartridge of each kind, RAM enabled and disabled, and addresses at both ends of each range. -/
theorem test_witness_cartridges :
    (vector []).cart = .bankSwitching ⟨[(0x147, 0x01)], 0x10000⟩ Mbc.initial ∧ (plainVector []).cart = .noBanking ⟨[], 0x8000⟩ ∧
    Mbc.initial.ramEnabled = false ∧ Mbc.initial.eram.wf = true ∧ { Mbc.initial with ramEnabled := true }.ramEnabled = true ∧
    ((0x0000 : Word).toNat ≤ 0x1FFF ∧ (0x1FFF : Word).toNat ≤ 0x1FFF) ∧ (0x2000 ≤ (0x2000 : Word).toNat ∧ (0x3FFF : Word).toNat ≤ 0x3FFF) ∧
    (0x4000 ≤ (0x4000 : Word).toNat ∧ (0x5FFF : Word).toNat ≤ 0x5FFF) ∧ (0x6000 ≤ (0x6000 : Word).toNat ∧ (0x7FFF : Word).toNat ≤ 0x7FFF) ∧
    (0xA000 ≤ (0xA000 : Word).toNat ∧ (0xBFFF : Word).toNat ≤ 0xBFFF) := by decide

/-- PushThenPop: the stack in high RAM and across the end of work RAM bank 0. -/
theorem test_witness_push_then_pop : (vector [0x00]).memoryWf ∧
    (plainStorage ((vector [0x00]).sp - 2) = true ∧ plainStorage ((vector [0x00]).sp - 1) = true) ∧ plainStorage 0xCFFF = true ∧ plainStorage 0xD000 = true :=
  ⟨test_vector_memory, by decide, by decide, by decide⟩

end Sys2Proof.Tests
end

/-! The state after `construct()` (R5, R40, R41, R43, R340). -/

namespace Sys2Proof.Machine

/-- Every byte of every memory array after `construct()` is `MEM_INIT` (R41). -/
theorem State.construct_array_read (cfg : Config) (st : Store) {i : Nat} (hi : i < st.size) :
    ((State.construct cfg).array st).read i = cfg.memInit := by
  rw [State.construct_array, Memory.read_filled cfg.memInit hi]

/-- Settles O15. The registers and the diagnostic fields are the literals that `construct()` writes, and
`Config.standard` is the list of defaults (R5); only the arrays' bytes need a lemma (`State.construct_array_read`). -/
theorem resetState : Obligations.ResetState := by
  unfold Obligations.ResetState
  constructor
  · intro cfg
    refine ⟨rfl, rfl, rfl, rfl, rfl, rfl, rfl, rfl, rfl, rfl, rfl, rfl, rfl, rfl, rfl, rfl, ?_⟩
    exact fun st _ hi => State.construct_array_read cfg st hi
  · rfl

end Sys2Proof.Machine

/-! What a step can answer, said once for the whole machine, and the invariants that follow from it (R22, R33 to R38, R304). -/

namespace Sys2Proof.Machine

/-- Everything `exec` can answer: a fault recorded at PC and nothing else written (R304), or the state of a rule that ran from the
state past a descriptor of the table (R137). -/
theorem exec_cases {i : Instr} {s t : State} (h : exec i s = .next t) :
    (∃ f : Fault, f.pc = s.pc ∧ t = s.raise f) ∨ ∃ (j : Instr) (d : Descriptor), j.descriptor = some d ∧ Keeps (s.start d) t := by
  obtain ⟨j, rule, hexec, hkeeps, -⟩ := exec_performs i
  rw [hexec] at h
  rcases perform_cases h with ⟨d, hd, -, ht⟩ | ⟨f, hpc, ht⟩
  · cases ht; exact .inr ⟨j, d, hd, hkeeps _⟩
  · cases ht; exact .inl ⟨f, hpc, rfl⟩

/-- Everything a step can answer: the state unchanged where the core does not run (R314), or what the instruction at PC answers
where no fault is recorded (R137). -/
theorem step_cases {s t : State} (h : step s = .next t) :
    (s.run ≠ .running ∧ t = s) ∨ (s.fault = none ∧ s.run = .running ∧ exec s.fetchInstr s = .next t) := by
  unfold step at h
  split at h
  · cases h
  · split at h
    · cases h
    · split at h <;> rename_i hrun
      · exact .inr ⟨‹_›, hrun, h⟩
      all_goals cases h; exact .inl ⟨by simp [hrun], rfl⟩

/-- A step changes nothing, records a fault at its PC, or runs a rule from the state past a descriptor of the table, in which no
fault is recorded. -/
theorem step_keeps {s t : State} (h : step s = .next t) :
    t = s ∨ (∃ f : Fault, f.pc = s.pc ∧ t = s.raise f) ∨
      ∃ (j : Instr) (d : Descriptor), j.descriptor = some d ∧ s.fault = none ∧ Keeps (s.start d) t := by
  rcases step_cases h with ⟨-, rfl⟩ | ⟨hfault, -, hexec⟩
  · exact .inl rfl
  · rcases exec_cases hexec with hraise | ⟨j, d, hd, hkeeps⟩
    · exact .inr (.inl hraise)
    · exact .inr (.inr ⟨j, d, hd, hfault, hkeeps⟩)

/-- Settles O17: a fault and the move past an instruction leave every memory alone, and each rule keeps it in form. -/
theorem stepKeepsMemoryInForm : Obligations.StepKeepsMemoryInForm := by
  unfold Obligations.StepKeepsMemoryInForm
  intro s t hwf h
  rcases step_keeps h with rfl | ⟨f, -, rfl⟩ | ⟨_, d, -, -, hkeeps⟩
  · exact hwf
  · exact State.memoryWf_congr hwf (s.raise_array f) (s.raise_cart f) (s.raise_cfg f)
  · exact hkeeps.memory (State.memoryWf_congr hwf (s.start_array d) (s.start_cart d) (s.start_cfg d))

/-- Settles O18: a fault and the move past an instruction do not write F, and each rule that writes it leaves its low nibble zero. -/
theorem stepKeepsFlagNibbleZero : Obligations.StepKeepsFlagNibbleZero := by
  unfold Obligations.StepKeepsFlagNibbleZero
  intro s t hclean h
  rcases step_keeps h with rfl | ⟨f, -, rfl⟩ | ⟨_, d, -, -, hkeeps⟩
  · exact hclean
  · exact hclean
  · exact hkeeps.flags hclean

/-- Settles O19: a step that raises a fault leaves PC where the fault says and does not write `lastDecoded`; one that executes
starts and ends without a fault, and `lastDecoded` is the descriptor it ran from. -/
theorem stepKeepsFaultAddressAndDescriptor : Obligations.StepKeepsFaultAddressAndDescriptor := by
  unfold Obligations.StepKeepsFaultAddressAndDescriptor
  intro s t hpc hknown h
  rcases step_keeps h with rfl | ⟨f, hf, rfl⟩ | ⟨j, d, hd, hfault, hkeeps⟩
  · exact ⟨hpc, hknown⟩
  · refine ⟨fun g hg => ?_, hknown⟩
    cases hg
    exact hf
  · have hnone : t.fault = none := hkeeps.fault.trans hfault
    refine ⟨fun g hg => ?_, .inr ⟨j, hkeeps.lastDecoded.trans hd.symm⟩⟩
    rw [hnone] at hg
    cases hg

/-- Settles O20: each rule keeps the parameters, the image and the kind of the controller, and nothing around it writes them. -/
theorem stepKeepsConfigurationAndImage : Obligations.StepKeepsConfigurationAndImage := by
  unfold Obligations.StepKeepsConfigurationAndImage
  intro s t h
  rcases step_keeps h with rfl | ⟨f, -, rfl⟩ | ⟨_, d, -, -, hkeeps⟩
  · exact ⟨rfl, rfl, rfl⟩
  · exact ⟨rfl, rfl, rfl⟩
  · exact ⟨hkeeps.cfg, hkeeps.image, hkeeps.banked⟩

/-- `construct()` leaves every array filled and no cartridge (R41, R340), so every memory is in form. -/
theorem State.construct_memoryWf {cfg : Config} (hsize : 0 < cfg.extRamSize) : (State.construct cfg).memoryWf := by
  refine ⟨fun st => ?_, hsize, rfl⟩
  rw [State.construct_array]
  exact ⟨Memory.wf_filled _ _, Memory.within_filled _ _⟩

/-- `construct()` writes 0xB0 to F (R40). -/
theorem State.construct_flagsClean (cfg : Config) : (State.construct cfg).flagsClean :=
  show (0xB0 : Byte) &&& 0x0F = 0 by decide

/-- Settles O16: after `construct()` the memories and F are in form, no fault is recorded and no instruction is decoded; the reset
state is `construct()` at the defaults (R340). -/
theorem resetMeetsTheInvariants : Obligations.ResetMeetsTheInvariants := by
  unfold Obligations.ResetMeetsTheInvariants
  have constructed (cfg : Config) (hsize : 0 < cfg.extRamSize) : (State.construct cfg).memoryWf ∧ (State.construct cfg).flagsClean ∧
      (State.construct cfg).faultAtPc ∧ (State.construct cfg).decodedKnown :=
    ⟨State.construct_memoryWf hsize, State.construct_flagsClean cfg, nofun, .inl rfl⟩
  exact ⟨constructed Config.standard (by decide), constructed⟩

end Sys2Proof.Machine

/-! Run state, IME, SP and PC (R28 to R30, R32): what each shared rule does to them, then the few ways in which an instruction
can write them. -/

namespace Sys2Proof.Machine

/-- The fields that only control transfers, stack and system instructions write. -/
structure Control where
  run : RunState
  ime : Bool
  sp : Word
  pc : Word

/-- The control fields of a state. -/
def State.control (s : State) : Control := ⟨s.run, s.ime, s.sp, s.pc⟩

@[simp] theorem State.setFlags_control (s : State) (z n h c : Option Bool) : (s.setFlags z n h c).control = s.control := rfl
@[simp] theorem State.write8_control (s : State) (p : Word) (v : Byte) : (s.write8 p v).control = s.control := by
  simp [State.control]
@[simp] theorem State.write16_control (s : State) (p v : Word) : (s.write16 p v).control = s.control := by
  simp [State.write16]
@[simp] theorem State.put8_control (s : State) (r : R8) (v : Byte) : (s.put8 r v).control = s.control := by
  cases r with
  | atHl => exact s.write8_control s.hl v
  | _ => rfl
/-- Of the 16-bit registers only SP is a control field (R123). -/
theorem State.put16_control (s : State) {r : R16} (v : Word) (h : r ≠ .sp) : (s.put16 r v).control = s.control := by
  cases r with
  | sp => exact absurd rfl h
  | _ => rfl
@[simp] theorem State.putPair_control (s : State) (q : Pair) (v : Word) : (s.putPair q v).control = s.control := by
  cases q <;> rfl
@[simp] theorem State.afterAccess_control (s : State) (m : MemOperand) : (s.afterAccess m).control = s.control := by
  cases m <;> rfl
@[simp] theorem State.jump_control (s : State) (target : Word) : (s.jump target).control = { s.control with pc := target } := rfl
@[simp] theorem State.push16_control (s : State) (v : Word) : (s.push16 v).control = { s.control with sp := s.sp - 2 } := by
  simp [State.push16, State.control]

@[simp] theorem State.addA_control (s : State) (v : Byte) (cin : Bool) : (s.addA v cin).control = s.control := rfl
@[simp] theorem State.subA_control (s : State) (v : Byte) (cin : Bool) : (s.subA v cin).control = s.control := rfl
@[simp] theorem State.cpA_control (s : State) (v : Byte) : (s.cpA v).control = s.control := rfl
@[simp] theorem State.logicA_control (s : State) (op : LogicOp) (v : Byte) : (s.logicA op v).control = s.control := rfl
@[simp] theorem State.inc8_control (s : State) (r : R8) : (s.inc8 r).control = s.control := by simp [State.inc8]
@[simp] theorem State.dec8_control (s : State) (r : R8) : (s.dec8 r).control = s.control := by simp [State.dec8]
@[simp] theorem State.complementA_control (s : State) : s.complementA.control = s.control := rfl
@[simp] theorem State.complementCarry_control (s : State) : s.complementCarry.control = s.control := rfl
@[simp] theorem State.setCarry_control (s : State) : s.setCarry.control = s.control := rfl
@[simp] theorem State.decimalAdjust_control (s : State) : s.decimalAdjust.control = s.control := rfl
@[simp] theorem State.addHl_control (s : State) (r : R16) : (s.addHl r).control = s.control := rfl
@[simp] theorem State.inc16_control (s : State) {r : R16} (h : r ≠ .sp) : (s.inc16 r).control = s.control := s.put16_control _ h
@[simp] theorem State.dec16_control (s : State) {r : R16} (h : r ≠ .sp) : (s.dec16 r).control = s.control := s.put16_control _ h
@[simp] theorem State.ld16Imm_control (s : State) {r : R16} (v : Word) (h : r ≠ .sp) : (s.ld16Imm r v).control = s.control :=
  s.put16_control v h
@[simp] theorem State.ld8_control (s : State) (r r' : R8) : (s.ld8 r r').control = s.control := s.put8_control r _
@[simp] theorem State.ld8Imm_control (s : State) (r : R8) (v : Byte) : (s.ld8Imm r v).control = s.control := s.put8_control r v
@[simp] theorem State.loadA_control (s : State) (m : MemOperand) : (s.loadA m).control = s.control :=
  State.afterAccess_control _ m
@[simp] theorem State.storeA_control (s : State) (m : MemOperand) : (s.storeA m).control = s.control := by simp [State.storeA]
@[simp] theorem State.storeSp_control (s : State) (p : Word) : (s.storeSp p).control = s.control := s.write16_control p _
@[simp] theorem State.ldHlFromSp_control (s : State) (e8 : Byte) : (s.ldHlFromSp e8).control = s.control := rfl
@[simp] theorem State.rotateA_control (s : State) (op : ShiftOp) : (s.rotateA op).control = s.control := rfl
@[simp] theorem State.shiftOperand_control (s : State) (op : ShiftOp) (r : R8) : (s.shiftOperand op r).control = s.control := by
  simp [State.shiftOperand]
@[simp] theorem State.testBit_control (s : State) (b : Nat) (r : R8) : (s.testBit b r).control = s.control := rfl
@[simp] theorem State.resetBit_control (s : State) (b : Nat) (r : R8) : (s.resetBit b r).control = s.control := s.put8_control r _
@[simp] theorem State.setBit_control (s : State) (b : Nat) (r : R8) : (s.setBit b r).control = s.control := s.put8_control r _
@[simp] theorem State.prefixedRule_control (s : State) (op2 : Byte) : (s.prefixedRule op2).control = s.control := by
  unfold State.prefixedRule
  dsimp only
  split <;> simp

theorem State.pushPair_control (s : State) (q : Pair) : (s.pushPair q).control = { s.control with sp := s.sp - 2 } :=
  s.push16_control _
theorem State.popPair_control (s : State) (q : Pair) : (s.popPair q).control = { s.control with sp := s.sp + 2 } :=
  s.drop16.putPair_control q _
theorem State.call_control (s : State) (target : Word) : (s.call target).control = { s.control with sp := s.sp - 2, pc := target } := by
  simp [State.call]

/-- The instruction's descriptor has one of these mnemonics (R131). -/
def HasMnemonic (ms : List Mnemonic) (i : Instr) : Prop := ∃ d, i.descriptor = some d ∧ d.mnemonic ∈ ms

/-- What an executed instruction does to the control fields, from the state past it to the state it leaves: nothing, or one of
the writes that the spec gives to the instructions named. -/
inductive ControlEffect (i : Instr) (c c' : Control) : Prop where
  /-- Every other instruction. -/
  | keeps (same : c' = c)
  /-- STOP (R263). -/
  | stops (operand : Byte) (instr : i = .stop operand) (written : c' = { c with run := .stopped })
  /-- HALT (R265). -/
  | halts (instr : i = .halt) (written : c' = { c with run := .halted })
  /-- DI and EI (R261, R262). -/
  | writesIme (v : Bool) (instr : i = .di ∧ v = false ∨ i = .ei ∧ v = true) (written : c' = { c with ime := v })
  /-- The loads of SP and the arithmetic on it (R192 to R194, R243, R245). -/
  | writesSp (sp : Word) (instr : (∃ n, i = .ldSpN16 n) ∨ i = .ldSpHl ∨ i = .incSp ∨ i = .decSp ∨ ∃ e, i = .addSpE8 e)
      (written : c' = { c with sp := sp })
  /-- PUSH and POP (R222 to R224). -/
  | usesStack (sp : Word) (instr : HasMnemonic [.push, .pop] i) (written : c' = { c with sp := sp })
  /-- JP and JR (R201 to R205). -/
  | jumps (pc : Word) (instr : HasMnemonic [.jp, .jr] i) (written : c' = { c with pc := pc })
  /-- CALL, RET and RST (R206 to R209, R211). -/
  | callsOrReturns (sp pc : Word) (instr : HasMnemonic [.call, .ret, .rst] i) (written : c' = { c with sp := sp, pc := pc })
  /-- RETI (R210). -/
  | returnsEnabled (sp pc : Word) (instr : i = .reti) (written : c' = { c with ime := true, sp := sp, pc := pc })

/-- A rule under a condition does nothing or what the rule does (R200). -/
theorem ControlEffect.onCond {i : Instr} {s : State} {rule : State → State} (cc : Cond)
    (h : ControlEffect i s.control (rule s).control) : ControlEffect i s.control (s.onCond cc rule).control := by
  unfold State.onCond
  split
  · exact h
  · exact .keeps rfl

theorem ControlEffect.run_cases {i : Instr} {c c' : Control} (h : ControlEffect i c c') :
    c'.run = c.run ∨ (∃ b, i = .stop b ∧ c'.run = .stopped) ∨ (i = .halt ∧ c'.run = .halted) := by
  cases h with
  | stops b instr written => exact .inr (.inl ⟨b, instr, congrArg Control.run written⟩)
  | halts instr written => exact .inr (.inr ⟨instr, congrArg Control.run written⟩)
  | _ => rename_i written; exact .inl (by rw [written])

theorem ControlEffect.ime_cases {i : Instr} {c c' : Control} (h : ControlEffect i c c') :
    c'.ime = c.ime ∨ (i = .di ∧ c'.ime = false) ∨ (i = .ei ∧ c'.ime = true) ∨ (i = .reti ∧ c'.ime = true) := by
  cases h with
  | writesIme v instr written =>
    rcases instr with ⟨hi, rfl⟩ | ⟨hi, rfl⟩
    · exact .inr (.inl ⟨hi, congrArg Control.ime written⟩)
    · exact .inr (.inr (.inl ⟨hi, congrArg Control.ime written⟩))
  | returnsEnabled _ _ instr written => exact .inr (.inr (.inr ⟨instr, congrArg Control.ime written⟩))
  | _ => rename_i written; exact .inl (by rw [written])

theorem HasMnemonic.mono {ms ms' : List Mnemonic} {i : Instr} (h : HasMnemonic ms i) (hs : ms ⊆ ms') : HasMnemonic ms' i :=
  let ⟨d, hd, hm⟩ := h; ⟨d, hd, hs hm⟩

theorem ControlEffect.sp_cases {i : Instr} {c c' : Control} (h : ControlEffect i c c') :
    c'.sp = c.sp ∨ ((∃ n, i = .ldSpN16 n) ∨ i = .ldSpHl ∨ i = .incSp ∨ i = .decSp ∨ ∃ e, i = .addSpE8 e) ∨
      HasMnemonic [.push, .pop, .call, .ret, .reti, .rst] i := by
  cases h with
  | writesSp _ instr _ => exact .inr (.inl instr)
  | usesStack _ instr _ => exact .inr (.inr (instr.mono (by decide)))
  | callsOrReturns _ _ instr _ => exact .inr (.inr (instr.mono (by decide)))
  | returnsEnabled _ _ instr _ => exact .inr (.inr (instr ▸ ⟨_, rfl, by decide⟩))
  | _ => rename_i written; exact .inl (by rw [written])

theorem ControlEffect.pc_cases {i : Instr} {c c' : Control} (h : ControlEffect i c c') :
    c'.pc = c.pc ∨ HasMnemonic [.jp, .jr, .call, .ret, .reti, .rst] i := by
  cases h with
  | jumps _ instr _ => exact .inr (instr.mono (by decide))
  | callsOrReturns _ _ instr _ => exact .inr (instr.mono (by decide))
  | returnsEnabled _ _ instr _ => exact .inr (instr ▸ ⟨_, rfl, by decide⟩)
  | _ => rename_i written; exact .inl (by rw [written])

/-- An instruction performs a rule that has one of the effects on the control fields: its own, or for the row PREFIX CB that of
the prefixed instruction (R266). -/
def PerformsWithEffect (i : Instr) : Prop :=
  ∃ (j : Instr) (rule : State → State), (∀ s, exec i s = perform j rule s) ∧ (∀ s, ControlEffect i s.control (rule s).control) ∧
    (j = i ∨ ∃ op2, i = .prefixCb op2)

/-- What each instruction does to the control fields: the system instructions, the writers of SP and the control transfers by name,
and nothing for every other. -/
theorem performsWithEffect (i : Instr) : PerformsWithEffect i := by
  cases i
  case prefixCb op2 => exact ⟨_, _, fun _ => rfl, fun s => .keeps (s.prefixedRule_control op2), .inr ⟨op2, rfl⟩⟩
  -- `exec` is reduced to its arm first: the arm names the rule.
  all_goals refine ⟨_, _, fun _ => by dsimp only [exec]; exact rfl, fun s => ?_, .inl rfl⟩
  case stop b => exact .stops b rfl rfl
  case halt => exact .halts rfl rfl
  case di => exact .writesIme false (.inl ⟨rfl, rfl⟩) rfl
  case ei => exact .writesIme true (.inr ⟨rfl, rfl⟩) rfl
  case ldSpN16 | ldSpHl | incSp | decSp | addSpE8 => exact .writesSp _ (by simp) rfl
  case pushBc | pushDe | pushHl | pushAf => exact .usesStack _ ⟨_, rfl, by decide⟩ (s.pushPair_control _)
  case popBc | popDe | popHl | popAf => exact .usesStack _ ⟨_, rfl, by decide⟩ (s.popPair_control _)
  case jpA16 | jpHl | jrE8 => exact .jumps _ ⟨_, rfl, by decide⟩ rfl
  case jpNzA16 | jpZA16 | jpNcA16 | jpCA16 | jrNzE8 | jrZE8 | jrNcE8 | jrCE8 => exact .onCond _ (.jumps _ ⟨_, rfl, by decide⟩ rfl)
  case callA16 | rst00 | rst08 | rst10 | rst18 | rst20 | rst28 | rst30 | rst38 =>
    exact .callsOrReturns _ _ ⟨_, rfl, by decide⟩ (s.call_control _)
  case callNzA16 | callZA16 | callNcA16 | callCA16 => exact .onCond _ (.callsOrReturns _ _ ⟨_, rfl, by decide⟩ (s.call_control _))
  case ret => exact .callsOrReturns _ _ ⟨_, rfl, by decide⟩ rfl
  case retNz | retZ | retNc | retC => exact .onCond _ (.callsOrReturns _ _ ⟨_, rfl, by decide⟩ rfl)
  case reti => exact .returnsEnabled _ _ rfl rfl
  all_goals exact .keeps (by simp)

/-- The control fields after `exec`: as before where a fault was raised, and else the instruction's effect on those past it. -/
theorem exec_control_cases {i : Instr} {s t : State} (h : exec i s = .next t) :
    t.control = s.control ∨ ∃ d, ControlEffect i (s.start d).control t.control := by
  obtain ⟨j, rule, hexec, heffect, -⟩ := performsWithEffect i
  rw [hexec] at h
  rcases perform_cases h with ⟨d, -, -, ht⟩ | ⟨f, -, ht⟩
  · cases ht; exact .inr ⟨d, heffect _⟩
  · cases ht; exact .inl rfl

/-- Settles O21: of all effects on the control fields only those of STOP and HALT write `run`, and a core that does not run is
left unchanged by a step. -/
theorem runChangesOnlyByStopAndHalt : Obligations.RunChangesOnlyByStopAndHalt := by
  unfold Obligations.RunChangesOnlyByStopAndHalt
  constructor
  · intro i s t h hne
    rcases exec_control_cases h with hsame | ⟨d, heffect⟩
    · exact absurd (congrArg Control.run hsame) hne
    · exact heffect.run_cases.resolve_left hne
  · intro s t hrun h
    rcases step_cases h with ⟨-, ht⟩ | ⟨-, hrunning, -⟩
    · exact ht
    · exact absurd hrunning hrun

/-- Settles O22: of all effects on the control fields only those of DI, EI and RETI write IME. -/
theorem imeChangesOnlyByDiEiReti : Obligations.ImeChangesOnlyByDiEiReti := by
  unfold Obligations.ImeChangesOnlyByDiEiReti
  intro i s t h hne
  rcases exec_control_cases h with hsame | ⟨d, heffect⟩
  · exact absurd (congrArg Control.ime hsame) hne
  · exact heffect.ime_cases.resolve_left hne

/-- Settles O23: the effects on the control fields that write SP are those of the instructions of R28. -/
theorem spChangesOnlyByStackInstructions : Obligations.SpChangesOnlyByStackInstructions := by
  unfold Obligations.SpChangesOnlyByStackInstructions
  intro i s t h hne
  rcases exec_control_cases h with hsame | ⟨d, heffect⟩
  · exact absurd (congrArg Control.sp hsame) hne
  · simpa only [or_assoc, HasMnemonic] using heffect.sp_cases.resolve_left hne

/-- Row by row of the instruction table, the encoding has the length that the descriptor gives (R131). -/
theorem encode_length (i : Instr) : Laws.EncodeLength.Statement i := by cases i <;> rfl

/-- The encoding of an instruction with a descriptor has the descriptor's length (R120, R131). -/
theorem encode_length_eq {i : Instr} {d : Descriptor} (hd : i.descriptor = some d) : (encode i).length = d.length := by
  have h := encode_length i
  rw [Laws.EncodeLength.Statement, hd] at h
  exact h

/-- A well-formed term is never the row PREFIX CB (R266). -/
theorem ne_prefixCb_of_wf {i : Instr} (h : i.wf = true) : ¬ ∃ op2, i = .prefixCb op2 := by
  rintro ⟨op2, rfl⟩
  cases h

/-- Settles O25: the move past the instruction is by its length (R138), and of all effects on the control fields only those of the
control transfers write PC. -/
theorem pcAdvancesByTheLength : Obligations.PcAdvancesByTheLength := by
  unfold Obligations.PcAdvancesByTheLength
  intro i d s t hwf hd himpl htransfer h
  obtain ⟨j, rule, hexec, heffect, hj⟩ := performsWithEffect i
  obtain rfl := hj.resolve_right (ne_prefixCb_of_wf hwf)
  rw [hexec, perform_implemented rule hd himpl] at h
  cases h
  rcases (heffect (s.start d)).pc_cases with hpc | ⟨d', hd', hmem⟩
  · rw [encode_length_eq hd]
    exact hpc
  · cases hd.symm.trans hd'
    exact absurd hmem htransfer

end Sys2Proof.Machine

/-! Which instructions a profile implements (R136), the load of a cartridge (R303, R341), and a word pushed and popped (R220, R221). -/

namespace Sys2Proof.Machine

/-- Only the illegal opcodes have no descriptor (R134). -/
theorem descriptor_isSome_iff (i : Instr) : i.descriptor.isSome = true ↔ ∀ op, i ≠ .illegal op := by
  constructor
  · rintro h op rfl
    cases h
  · intro h
    cases i with
    | illegal op => exact absurd rfl (h op)
    | _ => rfl

/-- FULL implements what has a descriptor (R136). -/
theorem implemented_full_eq (i : Instr) : i.implemented .full = i.descriptor.isSome := by
  unfold Instr.implemented
  cases i.descriptor <;> rfl

/-- The first bytes of the instructions that CORE does not implement (R136). -/
def fullOnlyFirstBytes : List (Option Byte) :=
  [some 0x07, some 0x0F, some 0x17, some 0x1F, some 0x27, some 0x37, some 0x76, some 0x88, some 0x89, some 0x8A,
    some 0x8B, some 0x8C, some 0x8D, some 0x8E, some 0x8F, some 0xCE, some 0xFB, some 0xCB]

/-- CORE implements what has a descriptor and a first byte that R136 does not list: the mnemonic and the first byte of each row of
the instruction table agree on it. -/
theorem implemented_core_eq (i : Instr) :
    i.implemented .core = (i.descriptor.isSome && !fullOnlyFirstBytes.contains (encode i).head?) := by
  cases i <;> rfl

/-- Settles O12: an implemented instruction performs its own rule, which keeps the fault and the descriptor of the start; what a
profile implements is read off the instruction table. -/
theorem implementedInstructionsExecute : Obligations.ImplementedInstructionsExecute := by
  unfold Obligations.ImplementedInstructionsExecute
  refine ⟨fun i s hwf himpl => ?_, fun i _ => ?_, fun i _ => ?_⟩
  · obtain ⟨j, rule, hexec, hkeeps, hj⟩ := exec_performs i
    obtain rfl := hj.resolve_right fun ⟨op2, h, _⟩ => ne_prefixCb_of_wf hwf ⟨op2, h⟩
    unfold Instr.implemented at himpl
    split at himpl
    · cases himpl
    · rename_i d hd
      exact ⟨_, (hexec s).trans (perform_implemented rule hd himpl), (hkeeps _).fault, (hkeeps _).lastDecoded.trans hd.symm⟩
  · rw [implemented_full_eq, descriptor_isSome_iff]
  · rw [implemented_core_eq, Bool.and_eq_true, descriptor_isSome_iff]
    simp [fullOnlyFirstBytes]

/-- A load into a core without a cartridge that the image's checks pass changes the cartridge only (R341). -/
theorem loadCartridge_ok {s : State} {bytes : List Byte} {cart : Cart} (habsent : s.cart = .absent) (h : Cart.ofBytes bytes = .ok cart) :
    loadCartridge bytes s = .loaded { s with cart := cart } := by
  simp [loadCartridge, habsent, h]

/-- A load that fails the image's checks answers their error (R303). -/
theorem loadCartridge_error {s : State} {bytes : List Byte} {e : CartridgeLoadError} (habsent : s.cart = .absent)
    (h : Cart.ofBytes bytes = .error e) : loadCartridge bytes s = .failed e := by
  simp [loadCartridge, habsent, h]

/-- An image without a byte at 0x147 is too short (R306). -/
theorem Cart.ofBytes_short {bytes : List Byte} (h : bytes.length ≤ 0x147) : Cart.ofBytes bytes = .error (.truncated bytes.length) := by
  unfold Cart.ofBytes
  rw [if_pos h]

/-- An image with a byte at 0x147: the kind is checked before the length (R306). -/
theorem Cart.ofBytes_of_kind {bytes : List Byte} {kind : Byte} (h : bytes[0x147]? = some kind) :
    Cart.ofBytes bytes =
      if kind ∉ [0x00, 0x01, 0x02, 0x03] then .error (.unknownController kind)
      else if bytes.length < 0x8000 then .error (.truncated bytes.length)
      else if kind = 0x00 then .ok (.noBanking (Rom.ofBytes bytes))
      else .ok (.bankSwitching (Rom.ofBytes bytes) Mbc.initial) := by
  have hlen : ¬ bytes.length ≤ 0x147 := Nat.not_le.mpr (List.getElem?_eq_some_iff.mp h).1
  simp [Cart.ofBytes, hlen, h]

/-- Settles O27: each answer is a branch of the image's checks, and a loaded image reads as its bytes. -/
theorem loadCartridge_spec : Obligations.LoadCartridge := by
  unfold Obligations.LoadCartridge
  intro s bytes
  refine ⟨fun hloaded => if_neg hloaded, fun habsent => ⟨fun hshort => loadCartridge_error habsent (Cart.ofBytes_short hshort), ?_⟩⟩
  intro kind hkind
  have hchecks := Cart.ofBytes_of_kind hkind
  refine ⟨fun hunknown => ?_, fun hknown hshort => ?_, fun hknown hlong => ⟨Rom.ofBytes bytes, rfl, ?_, fun hplain => ?_, fun hbanked => ?_⟩⟩
  · rw [if_pos hunknown] at hchecks
    exact loadCartridge_error habsent hchecks
  · rw [if_neg (not_not.mpr hknown), if_pos hshort] at hchecks
    exact loadCartridge_error habsent hchecks
  · exact fun cfg o => Rom.byte_ofBytes cfg bytes o
  · rw [if_neg (not_not.mpr hknown), if_neg (Nat.not_lt.mpr hlong), if_pos hplain] at hchecks
    exact loadCartridge_ok habsent hchecks
  · rw [if_neg (not_not.mpr hknown), if_neg (Nat.not_lt.mpr hlong), if_neg hbanked] at hchecks
    exact loadCartridge_ok habsent hchecks

/-- Neighbouring addresses are never the same storage byte (R65). -/
theorem unecho_ne_unecho_succ (p : Word) : unecho p ≠ unecho (p + 1) := by
  unfold unecho
  split <;> split <;> bv_omega

/-- A word written to plain storage is read back (R74, R90). -/
theorem State.read16_write16_plain (s : State) {p : Word} (v : Word) (hs : s.memoryWf) (hlo : plainStorage p = true)
    (hhi : plainStorage (p + 1) = true) : (s.write16 p v).read16 p = v := by
  have hwf (t : State) (ht : t.memoryWf) (st : Store) : (t.array st).wf = true := (ht.arrays st).1
  have hs' := State.memoryWf_write8 p (loByte v) hs
  unfold State.read16 State.write16
  rw [State.read8_write8_plain _ _ _ (hwf _ hs') hhi, State.read8_write8_plain _ _ _ (hwf _ hs') hhi,
    State.read8_write8_plain _ _ _ (hwf _ hs) hlo, if_neg (unecho_ne_unecho_succ p), if_pos rfl, if_pos rfl, wordOf_bytes]

@[simp] theorem State.push16_sp (s : State) (v : Word) : (s.push16 v).sp = s.sp - 2 := congrArg Control.sp (s.push16_control v)
@[simp] theorem State.pushPair_sp (s : State) (q : Pair) : (s.pushPair q).sp = s.sp - 2 := congrArg Control.sp (s.pushPair_control q)
@[simp] theorem State.popPair_sp (s : State) (q : Pair) : (s.popPair q).sp = s.sp + 2 := congrArg Control.sp (s.popPair_control q)

/-- The word at SP after a push to plain storage (R220, R221). -/
theorem State.top16_push16 (s : State) (v : Word) (hs : s.memoryWf) (hlo : plainStorage (s.sp - 2) = true)
    (hhi : plainStorage (s.sp - 1) = true) : (s.push16 v).top16 = v := by
  unfold State.top16
  rw [State.push16_sp]
  exact State.read16_write16_plain _ v (State.memoryWf_congr hs (fun _ => rfl) rfl rfl) hlo (sub_two_add_one s.sp ▸ hhi)

/-- The word at SP after PUSH is the pair (R222). -/
theorem State.pushPair_top16 (s : State) (q : Pair) (hs : s.memoryWf) (hlo : plainStorage (s.sp - 2) = true)
    (hhi : plainStorage (s.sp - 1) = true) : (s.pushPair q).top16 = s.getPair q :=
  s.top16_push16 (s.getPair q) hs hlo hhi

/-- The word at SP does not depend on PC or `lastDecoded`. -/
@[simp] theorem State.start_top16 (s : State) (d : Descriptor) : (s.start d).top16 = s.top16 := rfl

/-- AF written with a word gives that word without its low nibble (R22, R25). -/
@[simp] theorem State.setAf_af (s : State) (v : Word) : (s.setAf v).af = v &&& 0xFFF0 := by
  have hhi : hiByte v &&& 0xFF = hiByte v := BitVec.and_allOnes
  calc (s.setAf v).af = (hiByte v &&& 0xFF) ++ (loByte v &&& 0xF0) := by rw [hhi]; rfl
    _ = (hiByte v ++ loByte v) &&& 0xFFF0 := BitVec.and_append.symm
    _ = v &&& 0xFFF0 := congrArg (· &&& 0xFFF0) (wordOf_bytes v)

/-- A pair holds the word popped into it, AF without its low nibble (R25, R223, R224). -/
theorem State.popPair_getPair (s : State) (q : Pair) :
    (s.popPair q).getPair q = if q = .af then s.top16 &&& 0xFFF0 else s.top16 := by
  cases q with
  | af => exact State.setAf_af s.drop16 s.top16
  | _ => simp [State.popPair, State.putPair, State.getPair]

/-- A row that CORE implements performs its rule in both profiles (R136). -/
theorem perform_core {i : Instr} {d : Descriptor} (rule : State → State) (s : State) (hd : i.descriptor = some d)
    (hcore : d.implemented .core = true) : perform i rule s = .next (rule (s.start d)) := by
  refine perform_implemented rule hd ?_
  cases s.cfg.profile with
  | core => exact hcore
  | full => exact Descriptor.implemented_full d

/-- Each PUSH executes in both profiles (R136, R222). -/
theorem exec_push {push : Instr × Pair} (h : push ∈ [(Instr.pushBc, Pair.bc), (.pushDe, .de), (.pushHl, .hl), (.pushAf, .af)]) (s : State) :
    ∃ d, exec push.1 s = .next ((s.start d).pushPair push.2) := by
  simp only [List.mem_cons, List.not_mem_nil, or_false] at h
  rcases h with rfl | rfl | rfl | rfl <;> exact ⟨_, by dsimp only [exec]; exact perform_core (fun t => t.pushPair _) s rfl rfl⟩

/-- Each POP executes in both profiles (R136, R223, R224). -/
theorem exec_pop {pop : Instr × Pair} (h : pop ∈ [(Instr.popBc, Pair.bc), (.popDe, .de), (.popHl, .hl), (.popAf, .af)]) (s : State) :
    ∃ d, exec pop.1 s = .next ((s.start d).popPair pop.2) := by
  simp only [List.mem_cons, List.not_mem_nil, or_false] at h
  rcases h with rfl | rfl | rfl | rfl <;> exact ⟨_, by dsimp only [exec]; exact perform_core (fun t => t.popPair _) s rfl rfl⟩

/-- Settles O52: the popped pair holds the word at SP, which is the word pushed, and SP rises by the 2 by which it fell. -/
theorem pushThenPop : Obligations.PushThenPop := by
  unfold Obligations.PushThenPop
  intro push hpush pop hpop s hs hlo hhi
  obtain ⟨d, hexecPush⟩ := exec_push hpush s
  obtain ⟨d', hexecPop⟩ := exec_pop hpop ((s.start d).pushPair push.2)
  refine ⟨_, _, hexecPush, hexecPop, ?_, ?_⟩
  · rw [State.popPair_sp, State.start_sp, State.pushPair_sp, State.start_sp, BitVec.sub_add_cancel]
  · have hs' : (s.start d).memoryWf := State.memoryWf_congr hs (s.start_array d) (s.start_cart d) (s.start_cfg d)
    rw [State.popPair_getPair, State.start_top16, State.pushPair_top16 _ _ hs' hlo hhi, State.start_getPair]

end Sys2Proof.Machine

/-! Where the ranges of the region table lead, and what a bus access does in each region (R61, R62, R70 to R75). -/

namespace Sys2Proof.Machine

theorem State.read8_rom (s : State) {q : Word} (h : locate q = .rom) : s.read8 q = s.cart.readRom s.cfg q := by
  unfold State.read8; rw [h]
theorem State.read8_array (s : State) {q : Word} {st : Store} {i : Nat} (h : locate q = .array st i) :
    s.read8 q = (s.array st).read i := by
  unfold State.read8; rw [h]
theorem State.read8_extRam (s : State) {q : Word} (h : locate q = .extRam) : s.read8 q = s.cart.readRam s.cfg q := by
  unfold State.read8; rw [h]
theorem State.read8_unusable (s : State) {q : Word} (h : locate q = .unusable) : s.read8 q = s.cfg.unusableRead := by
  unfold State.read8; rw [h]
theorem State.write8_rom (s : State) {p : Word} (v : Byte) (h : locate p = .rom) :
    s.write8 p v = { s with cart := s.cart.writeRom p v } := by
  unfold State.write8; rw [h]
theorem State.write8_array (s : State) {p : Word} {st : Store} {i : Nat} (v : Byte) (h : locate p = .array st i) :
    s.write8 p v = arrayWrite st i v s := by
  unfold State.write8; rw [h]
theorem State.write8_extRam (s : State) {p : Word} (v : Byte) (h : locate p = .extRam) :
    s.write8 p v = { s with cart := s.cart.writeRam s.cfg p v } := by
  unfold State.write8; rw [h]
theorem State.write8_unusable (s : State) {p : Word} (v : Byte) (h : locate p = .unusable) : s.write8 p v = s := by
  unfold State.write8; rw [h]

/-- The addresses from an array's base on, as many as it has bytes, lead to its bytes in their order, and none of them is an echo
(R61, R65). -/
theorem regionOf_base {st : Store} {n i : Nat} (hn : n = st.base + i) (hi : i < st.size) :
    regionOf n = .array st i ∧ ¬ (0xE000 ≤ n ∧ n ≤ 0xFDFF) := by
  unfold regionOf
  cases st
  all_goals
    simp only [Store.base] at hn
    simp only [Store.size, Config.vramSize, Config.wramBankSize, Config.oamSize, Config.ioSize, Config.hramSize] at hi
    refine ⟨?_, by omega⟩
  case vram => rw [if_neg (by omega), if_pos (by omega), show n % 0x2000 = i by omega]
  case wram0 => rw [if_neg (by omega), if_neg (by omega), if_neg (by omega), if_pos (by omega), show n % 0x1000 = i by omega]
  case wram1 =>
    rw [if_neg (by omega), if_neg (by omega), if_neg (by omega), if_neg (by omega), if_pos (by omega), show n % 0x1000 = i by omega]
  case oam =>
    rw [if_neg (by omega), if_neg (by omega), if_neg (by omega), if_neg (by omega), if_neg (by omega), if_pos (by omega),
      show n - 0xFE00 = i by omega]
  case io =>
    rw [if_neg (by omega), if_neg (by omega), if_neg (by omega), if_neg (by omega), if_neg (by omega), if_neg (by omega),
      if_neg (by omega), if_pos (by omega), show n - 0xFF00 = i by omega]
  case hram =>
    rw [if_neg (by omega), if_neg (by omega), if_neg (by omega), if_neg (by omega), if_neg (by omega), if_neg (by omega),
      if_neg (by omega), if_neg (by omega), show n % 0x80 = i by omega]

/-- Outside the echo an address is its own folded address (R65). -/
theorem unecho_of_not_echo {p : Word} (h : ¬ (0xE000 ≤ p.toNat ∧ p.toNat ≤ 0xFDFF)) : unecho p = p := if_neg h

theorem locate_of_not_echo {p : Word} (h : ¬ (0xE000 ≤ p.toNat ∧ p.toNat ≤ 0xFDFF)) : locate p = regionOf p.toNat := by
  unfold locate
  rw [unecho_of_not_echo h]

theorem locate_of_base {st : Store} {p : Word} {i : Nat} (hp : p.toNat = st.base + i) (hi : i < st.size) : locate p = .array st i := by
  obtain ⟨hregion, hecho⟩ := regionOf_base hp hi
  rw [locate_of_not_echo hecho, hregion]

theorem locate_of_range {st : Store} {p : Word} (hlo : st.base ≤ p.toNat) (hhi : p.toNat < st.base + st.size) :
    locate p = .array st (p.toNat - st.base) :=
  locate_of_base (by omega) (by omega)

/-- A byte of an array above the echo has one address (R61, R65). -/
theorem locate_eq_high_iff {st : Store} {q : Word} {i : Nat} (hst : 0xFDFF < st.base) :
    locate q = .array st i ↔ q.toNat = st.base + i ∧ i < st.size := by
  constructor
  · intro hq
    obtain ⟨hbase, hi⟩ := locate_array hq
    refine ⟨?_, hi⟩
    rwa [unecho_of_not_echo fun hecho => ?_] at hbase
    rw [unecho, if_pos hecho] at hbase
    bv_omega
  · rintro ⟨hq, hi⟩
    exact locate_of_base hq hi

theorem locate_rom {p : Word} (h : p.toNat ≤ 0x7FFF) : locate p = .rom := by
  rw [locate_of_not_echo (by omega)]
  exact if_pos h

theorem locate_extRam {p : Word} (hlo : 0xA000 ≤ p.toNat) (hhi : p.toNat ≤ 0xBFFF) : locate p = .extRam := by
  rw [locate_of_not_echo (by omega)]
  unfold regionOf
  rw [if_neg (by omega), if_neg (by omega), if_pos hhi]

theorem locate_unusable {p : Word} (hlo : 0xFEA0 ≤ p.toNat) (hhi : p.toNat ≤ 0xFEFF) : locate p = .unusable := by
  rw [locate_of_not_echo (by omega)]
  unfold regionOf
  rw [if_neg (by omega), if_neg (by omega), if_neg (by omega), if_neg (by omega), if_neg (by omega), if_neg (by omega), if_pos hhi]

/-- Work RAM is the two banks, one after the other (R64). -/
theorem locate_workRam {p : Word} (hlo : 0xC000 ≤ p.toNat) (hhi : p.toNat ≤ 0xDFFF) :
    ∃ st i, (st = .wram0 ∨ st = .wram1) ∧ locate p = .array st i := by
  by_cases hbank : p.toNat ≤ 0xCFFF
  · exact ⟨.wram0, _, .inl rfl, locate_of_range hlo (Nat.lt_succ_of_le hbank)⟩
  · exact ⟨.wram1, _, .inr rfl, locate_of_range (Nat.lt_of_not_le hbank) (Nat.lt_succ_of_le hhi)⟩

/-- Outside the cartridge's windows a read does not see the cartridge (R61). -/
theorem State.read8_withCart (s : State) (cart : Cart) {q : Word} (hrom : locate q ≠ .rom) (hram : locate q ≠ .extRam) :
    { s with cart := cart }.read8 q = s.read8 q := by
  unfold State.read8
  cases hq : locate q with
  | rom => exact absurd hq hrom
  | extRam => exact absurd hq hram
  | _ => rfl

/-- What an I/O byte other than DMA holds after a write (R70 to R73). -/
def ioStored (i : Nat) (v : Byte) : Byte :=
  if i = 0x0F then v ||| 0xE0 else if i = 0x04 ∨ i = 0x44 then 0x00 else v

theorem ioWrite_of_ne_dma {i : Nat} (v : Byte) (s : State) (h : i ≠ 0x46) : ioWrite i v s = s.poke .io i (ioStored i v) := by
  unfold ioWrite ioStored
  by_cases hif : i = 0x0F
  · simp [hif]
  · by_cases hdiv : i = 0x04
    · simp [hdiv]
    · by_cases hly : i = 0x44
      · simp [hly]
      · simp [hif, hdiv, hly, h]

/-- A write to an array byte other than DMA stores one byte and does nothing else (R62, R70 to R73). -/
theorem arrayWrite_cases (st : Store) (i : Nat) (v : Byte) (s : State) :
    (st = .io ∧ i = 0x46 ∧ arrayWrite st i v s = dmaCopy v (s.poke .io 0x46 v)) ∨ ∃ w, arrayWrite st i v s = s.poke st i w := by
  cases st with
  | io =>
    by_cases hdma : i = 0x46
    · subst hdma
      exact .inl ⟨rfl, rfl, rfl⟩
    · exact .inr ⟨_, ioWrite_of_ne_dma v s hdma⟩
  | _ => exact .inr ⟨v, rfl⟩

/-- A DMA copy writes the sprite table only (R75). -/
theorem dmaCopy_eq (v : Byte) (s : State) : ∃ oam, dmaCopy v s = { s with oam := oam } := by
  refine dmaCopy_keeps (P := fun t => ∃ oam, t = { s with oam := oam }) v ?_ s ⟨s.oam, rfl⟩
  rintro _ k - ⟨oam, rfl⟩
  exact ⟨_, rfl⟩

/-- Outside the sprite table a DMA copy is not seen (R75). -/
theorem State.read8_dmaCopy_of_ne_oam (s : State) (v : Byte) {q : Word} (h : ∀ k, locate q ≠ .array .oam k) :
    (dmaCopy v s).read8 q = s.read8 q := by
  obtain ⟨oam, heq⟩ := dmaCopy_eq v s
  rw [heq]
  unfold State.read8
  cases hq : locate q with
  | array st k =>
    cases st with
    | oam => exact absurd hq (h k)
    | _ => rfl
  | _ => rfl

/-- A byte of the sprite table after a DMA copy is the byte at its source before it (R75). -/
theorem State.read8_dmaCopy_oam {s : State} (v : Byte) {q : Word} {k : Nat} (hs : s.oam.wf = true) (hq : locate q = .array .oam k) :
    (dmaCopy v s).read8 q = s.read8 (dmaSource v k) := by
  rw [State.read8_array _ hq]
  exact ((dmaCopy_oam v s hs).2 k).trans (if_pos (locate_index_lt hq))

theorem dmaSource_eq (v : Byte) (k : Nat) : dmaSource v k = BitVec.ofNat 16 (v.toNat * 256 + k) := by
  refine BitVec.eq_of_toNat_eq ?_
  unfold dmaSource
  rw [BitVec.toNat_add, wordOf_toNat, BitVec.toNat_ofNat, BitVec.toNat_ofNat, Nat.add_mod_mod]
  simp [Nat.mul_comm]

end Sys2Proof.Machine

/-! The obligations about the bus outside the cartridge: echo, plain storage, I/O and DMA (R60 to R76). -/

namespace Sys2Proof.Machine

/-- Settles O8: every arm of `exec` is a `perform`, which always answers a next state. -/
theorem execAlwaysAnswersANextState : Obligations.ExecAlwaysAnswersANextState := by
  unfold Obligations.ExecAlwaysAnswersANextState
  intro i s
  obtain ⟨j, rule, hexec, -⟩ := exec_performs i
  rw [hexec]
  exact perform_next j rule s

/-- Settles O28: an echo address and the one 0x2000 below it lead to the same byte of work RAM, and an access to an array depends on
the address by the byte it leads to only. -/
theorem echoAndUnusableRegion : Obligations.EchoAndUnusableRegion := by
  unfold Obligations.EchoAndUnusableRegion
  constructor
  · intro s p v hlo hhi
    have hfold : unecho p = p - 0x2000 := if_pos ⟨hlo, hhi⟩
    have hsame : locate (p - 0x2000) = locate p := hfold ▸ locate_unecho p
    obtain ⟨st, i, -, hbelow⟩ := locate_workRam (p := p - 0x2000) (by bv_omega) (by bv_omega)
    have hp : locate p = .array st i := hsame.symm.trans hbelow
    exact ⟨(s.read8_array hp).trans (s.read8_array hbelow).symm,
      (s.write8_array v hp).trans (s.write8_array v hbelow).symm⟩
  · intro s p v hlo hhi
    have hp := locate_unusable hlo hhi
    exact ⟨s.read8_unusable hp, s.write8_unusable v hp⟩

/-- Video RAM, work RAM, the sprite table and high RAM are plain storage (R63, R64, R66, R76). -/
theorem plainStorage_of_range {p : Word}
    (h : 0x8000 ≤ p.toNat ∧ p.toNat ≤ 0x9FFF ∨ 0xC000 ≤ p.toNat ∧ p.toNat ≤ 0xDFFF ∨ 0xFE00 ≤ p.toNat ∧ p.toNat ≤ 0xFE9F ∨
      0xFF80 ≤ p.toNat) : plainStorage p = true := by
  unfold plainStorage
  rcases h with ⟨hlo, hhi⟩ | ⟨hlo, hhi⟩ | ⟨hlo, hhi⟩ | hlo
  · rw [locate_of_range (st := .vram) hlo (Nat.lt_succ_of_le hhi)]
  · obtain ⟨st, i, rfl | rfl, hp⟩ := locate_workRam hlo hhi <;> rw [hp]
  · rw [locate_of_range (st := .oam) hlo (Nat.lt_succ_of_le hhi)]
  · rw [locate_of_range (st := .hram) hlo p.isLt]

/-- Settles O29: these ranges are plain storage, where a write stores one byte, and outside the echo that byte has one address. -/
theorem storageReadsBack : Obligations.StorageReadsBack := by
  unfold Obligations.StorageReadsBack
  intro s p v hs hrange
  have hplain := plainStorage_of_range hrange
  have hread (q : Word) := s.read8_write8_plain q v (fun st => (hs.arrays st).1) hplain
  refine ⟨(hread p).trans (if_pos rfl), fun q hecho hne => ?_, ?_⟩
  · rw [hread, unecho_of_not_echo (p := q) (by omega), unecho_of_not_echo (p := p) (by omega), if_neg hne]
  · obtain ⟨st, i, -, hwrite⟩ := s.write8_plain v hplain
    rw [hwrite, State.poke_cart]

/-- Settles O30: such a write stores one byte of the I/O block, `ioStored`, and that byte has one address. -/
theorem ioWriteSideEffects : Obligations.IoWriteSideEffects := by
  unfold Obligations.IoWriteSideEffects
  intro s p v hs hlo hhi hdma
  have hp : locate p = .array .io (p.toNat - 0xFF00) := locate_of_range (st := .io) hlo (Nat.lt_succ_of_le hhi)
  have hwrite : s.write8 p v = s.poke .io (p.toNat - 0xFF00) (ioStored (p.toNat - 0xFF00) v) :=
    (s.write8_array v hp).trans (ioWrite_of_ne_dma v s (by bv_omega))
  have hread (q : Word) := s.read8_poke .io (p.toNat - 0xFF00) (ioStored (p.toNat - 0xFF00) v) q (hs.arrays .io).1
  rw [hwrite]
  refine ⟨?_, fun q hne => ?_, rfl⟩
  · rw [hread, if_pos hp]
    unfold ioStored
    simp only [show p.toNat - 0xFF00 = 0x0F ↔ p = 0xFF0F by bv_omega, show p.toNat - 0xFF00 = 0x04 ↔ p = 0xFF04 by bv_omega,
      show p.toNat - 0xFF00 = 0x44 ↔ p = 0xFF44 by bv_omega]
  · have hnot : locate q ≠ .array .io (p.toNat - 0xFF00) := by
      rw [Ne, locate_eq_high_iff (by decide)]
      simp only [Store.base]
      bv_omega
    rw [hread, if_neg hnot]

/-- The source of a copied byte is the byte of DMA itself only in page 0xFF, at byte 0x46 (R75). -/
theorem locate_dmaSource_eq_dma_iff {v : Byte} {k : Nat} (hk : k < 160) :
    locate (BitVec.ofNat 16 (v.toNat * 256 + k)) = .array .io 0x46 ↔ v.toNat * 256 + k = 0xFF46 := by
  have hv := v.isLt
  rw [locate_eq_high_iff (by decide), BitVec.toNat_ofNat, Nat.mod_eq_of_lt (by omega)]
  simp [Store.base, Store.size, Config.ioSize]

/-- A write to 0xFF46 is the store of the value, then the copy (R75). -/
theorem State.write8_dma (s : State) (v : Byte) : s.write8 0xFF46 v = dmaCopy v (s.poke .io 0x46 v) :=
  s.write8_array v (st := .io) (i := 0x46) rfl

/-- Settles O31: the copy reads its sources after the value is stored, so the one that is 0xFF46 gives the value; the sources in the
sprite table are the bytes they are copied to. -/
theorem dmaCopiesThePage : Obligations.DmaCopiesThePage := by
  unfold Obligations.DmaCopiesThePage
  intro s v hs
  have hdma : locate 0xFF46 = .array .io 0x46 := rfl
  have hpoke (q : Word) := s.read8_poke .io 0x46 v q (hs.arrays .io).1
  have hoamWf : (s.poke .io 0x46 v).oam.wf = true := (hs.arrays .oam).1
  rw [State.write8_dma]
  refine ⟨?_, fun k hk => ?_, fun q hne hq => ?_, ?_⟩
  · rw [State.read8_dmaCopy_of_ne_oam _ v (by rw [hdma]; exact nofun), hpoke, if_pos hdma]
  · have hoam : locate (BitVec.ofNat 16 (0xFE00 + k)) = .array .oam k :=
      locate_of_base (by simp only [Store.base, BitVec.toNat_ofNat]; omega) hk
    rw [State.read8_dmaCopy_oam v hoamWf hoam, hpoke, dmaSource_eq]
    simp only [locate_dmaSource_eq_dma_iff hk]
  · have hnotOam (k : Nat) : locate q ≠ .array .oam k := by
      rw [Ne, locate_eq_high_iff (by decide)]
      simp only [Store.base, Store.size, Config.oamSize]
      omega
    have hnotDma : locate q ≠ .array .io 0x46 := by
      rw [Ne, locate_eq_high_iff (by decide)]
      simp only [Store.base]
      bv_omega
    rw [State.read8_dmaCopy_of_ne_oam _ v hnotOam, hpoke, if_neg hnotDma]
  · obtain ⟨oam, heq⟩ := dmaCopy_eq v (s.poke .io 0x46 v)
    rw [heq]
    rfl

end Sys2Proof.Machine

/-! The cartridge's windows: the controller's registers, the image and external RAM (R79 to R87). -/

namespace Sys2Proof.Machine

/-- RAM is enabled by the low nibble 0xA (R80). -/
theorem lowNibble_eq_iff : ∀ v : Byte, v.extractLsb' 0 4 = 0xA#4 ↔ v &&& 0x0F = 0x0A := by decide

theorem Mbc.writeRegister_enable (m : Mbc) {p : Word} (v : Byte) (h : p.toNat ≤ 0x1FFF) :
    m.writeRegister p v = { m with ramEnabled := decide (v &&& 0x0F = 0x0A) } := by
  unfold Mbc.writeRegister
  rw [if_pos h]
  simp only [lowNibble_eq_iff]

theorem Mbc.writeRegister_romBank (m : Mbc) {p : Word} (v : Byte) (hlo : 0x2000 ≤ p.toNat) (hhi : p.toNat ≤ 0x3FFF) :
    m.writeRegister p v = { m with romBankLow := BitVec.ofNat 5 v.toNat } := by
  unfold Mbc.writeRegister
  rw [if_neg (by omega), if_pos hhi]
  rfl

theorem Mbc.writeRegister_bank2 (m : Mbc) {p : Word} (v : Byte) (hlo : 0x4000 ≤ p.toNat) (hhi : p.toNat ≤ 0x5FFF) :
    m.writeRegister p v = { m with bank2 := BitVec.ofNat 2 v.toNat } := by
  unfold Mbc.writeRegister
  rw [if_neg (by omega), if_neg (by omega), if_pos hhi]
  rfl

theorem Mbc.writeRegister_mode (m : Mbc) {p : Word} (v : Byte) (hlo : 0x6000 ≤ p.toNat) :
    m.writeRegister p v = { m with bankingMode := if v.toNat % 2 = 1 then .ramBanking else .romBanking } := by
  unfold Mbc.writeRegister
  rw [if_neg (by omega), if_neg (by omega), if_neg (by omega)]
  have hbit : v.getLsbD 0 = decide (v.toNat % 2 = 1) := Nat.testBit_zero _
  simp only [hbit, decide_eq_true_eq]

/-- Settles O32: each quarter of the ROM range picks its register, which keeps the low bits of the value. -/
theorem controllerRegisterWrites : Obligations.ControllerRegisterWrites := by
  unfold Obligations.ControllerRegisterWrites
  intro s rom m p v hcart
  have hwrite (h : p.toNat ≤ 0x7FFF) : s.write8 p v = { s with cart := .bankSwitching rom (m.writeRegister p v) } := by
    rw [s.write8_rom v (locate_rom h), hcart]
    rfl
  refine ⟨fun h => ?_, fun hlo hhi => ?_, fun hlo hhi => ?_, fun hlo hhi => ?_⟩
  · rw [hwrite (by omega), m.writeRegister_enable v h]
  · rw [hwrite (by omega), m.writeRegister_romBank v hlo hhi]
  · rw [hwrite (by omega), m.writeRegister_bank2 v hlo hhi]
  · rw [hwrite hhi, m.writeRegister_mode v hlo]

/-- The zero guard (R84) is a maximum. -/
theorem Mbc.activeRomBank_eq_max (m : Mbc) : m.activeRomBank = max m.selectedRomBank 1 := by
  unfold Mbc.activeRomBank
  split <;> omega

/-- Settles O33: the lower window shows the address's own offset, the upper one the active bank's. -/
theorem romWindows : Obligations.RomWindows := by
  unfold Obligations.RomWindows
  intro s rom m p hcart
  have hread (h : p.toNat ≤ 0x7FFF) : s.read8 p = rom.byte s.cfg (m.romOffset p) := by
    rw [s.read8_rom (locate_rom h), hcart]
    rfl
  refine ⟨fun h => ?_, fun hlo hhi b hb => ?_⟩
  · have hoffset : m.romOffset p = p.toNat := if_pos h
    rw [hread (by omega), hoffset]
    rfl
  · have hselected : m.selectedRomBank = b := by
      rw [hb]
      unfold Mbc.selectedRomBank
      cases m.bankingMode with
      | romBanking => exact (Nat.add_comm _ _).trans (by rw [Nat.mul_comm])
      | ramBanking => rfl
    have hoffset : m.romOffset p = max b 1 * 0x4000 + (p.toNat - 0x4000) := by
      unfold Mbc.romOffset
      rw [if_neg (by omega), m.activeRomBank_eq_max, hselected]
      omega
    rw [hread hhi, hoffset]
    rfl

theorem Cart.readRam_enabled {m : Mbc} (cfg : Config) (rom : Rom) (q : Word) (h : m.ramEnabled = true) :
    (Cart.bankSwitching rom m).readRam cfg q = m.eram.read (m.ramIndex cfg q) := if_pos h

theorem Cart.readRam_disabled {m : Mbc} (cfg : Config) (rom : Rom) (q : Word) (h : m.ramEnabled = false) :
    (Cart.bankSwitching rom m).readRam cfg q = cfg.cartRamDisabledRead := if_neg (by simp [h])

theorem Cart.writeRam_enabled {m : Mbc} (cfg : Config) (rom : Rom) (p : Word) (v : Byte) (h : m.ramEnabled = true) :
    (Cart.bankSwitching rom m).writeRam cfg p v = .bankSwitching rom { m with eram := m.eram.write (m.ramIndex cfg p) v } := if_pos h

theorem Cart.writeRam_disabled {m : Mbc} (cfg : Config) (rom : Rom) (p : Word) (v : Byte) (h : m.ramEnabled = false) :
    (Cart.bankSwitching rom m).writeRam cfg p v = .bankSwitching rom m := if_neg (by simp [h])

/-- Settles O34: the window's low 13 bits and the active bank give the index; a write there stores one byte of external RAM. -/
theorem externalRam : Obligations.ExternalRam := by
  unfold Obligations.ExternalRam
  intro s rom m p v hcart hlo hhi
  have hp := locate_extRam hlo hhi
  rw [s.read8_extRam hp, s.write8_extRam v hp, hcart]
  refine ⟨fun hoff => ?_, fun hon o ho => ?_⟩
  · rw [Cart.readRam_disabled _ _ _ hoff, Cart.writeRam_disabled _ _ _ _ hoff, ← hcart]
    exact ⟨rfl, rfl⟩
  · have hindex : m.ramIndex s.cfg p = o := by
      rw [ho, show p.toNat - 0xA000 = p.toNat % 0x2000 by omega]
      rfl
    rw [Cart.readRam_enabled _ _ _ hon, Cart.writeRam_enabled _ _ _ _ hon, hindex]
    refine ⟨rfl, fun hwf => ⟨m.eram.write o v, rfl, ?_, fun j hj => ?_⟩⟩
    · rw [Memory.read_write_wf hwf, if_pos rfl]
    · rw [Memory.read_write_wf hwf, if_neg hj.symm]

/-- Settles O35: the controller without banking keeps the cartridge at every write, and reads the image or the sentinel. -/
theorem noBankingController : Obligations.NoBankingController := by
  unfold Obligations.NoBankingController
  intro s rom p v hcart
  refine ⟨fun h => ?_, fun hlo hhi => ?_⟩
  · rw [s.read8_rom (locate_rom h), s.write8_rom v (locate_rom h), hcart]
    exact ⟨rfl, by rw [Cart.writeRom, ← hcart]⟩
  · have hp := locate_extRam hlo hhi
    rw [s.read8_extRam hp, s.write8_extRam v hp, hcart]
    exact ⟨rfl, by rw [Cart.writeRam, ← hcart]⟩

end Sys2Proof.Machine

/-! What one bus write can reach, and that a second write reaches no more than it would from the state before the first (R62, R89). -/

namespace Sys2Proof.Machine

@[simp] theorem Cart.readRom_writeRam (cfg : Config) (cart : Cart) (p q : Word) (v : Byte) :
    (cart.writeRam cfg p v).readRom cfg q = cart.readRom cfg q := by
  cases cart with
  | bankSwitching rom m =>
    cases h : m.ramEnabled with
    | true => rw [Cart.writeRam_enabled cfg rom p v h]; rfl
    | false => rw [Cart.writeRam_disabled cfg rom p v h]
  | _ => rfl

/-- A store to external RAM is not seen at another cell (R86). -/
theorem Cart.readRam_writeRam_of_ne {cfg : Config} {cart : Cart} {p q : Word} (v : Byte) (hwf : cart.wf cfg = true)
    (hne : ∀ rom m, cart = .bankSwitching rom m → m.ramIndex cfg p ≠ m.ramIndex cfg q) :
    (cart.writeRam cfg p v).readRam cfg q = cart.readRam cfg q := by
  cases cart with
  | bankSwitching rom m =>
    cases h : m.ramEnabled with
    | true =>
      simp only [Cart.wf, Bool.and_eq_true] at hwf
      obtain ⟨⟨-, heram⟩, -⟩ := hwf
      rw [Cart.writeRam_enabled cfg rom p v h]
      calc Cart.readRam cfg (.bankSwitching rom { m with eram := m.eram.write (m.ramIndex cfg p) v }) q
        _ = (m.eram.write (m.ramIndex cfg p) v).read (m.ramIndex cfg q) := Cart.readRam_enabled cfg rom q h
        _ = m.eram.read (m.ramIndex cfg q) := (Memory.read_write_wf heram _ _ v).trans (if_neg (hne rom m rfl))
        _ = Cart.readRam cfg (.bankSwitching rom m) q := (Cart.readRam_enabled cfg rom q h).symm
    | false => rw [Cart.writeRam_disabled cfg rom p v h]
  | _ => rfl

/-- A byte that a store cannot reach reads as before (R62, R89). -/
theorem State.read8_write8_frame {s : State} {p q : Word} (v : Byte) (hs : s.memoryWf) (h : ¬ s.mayChange p q) :
    (s.write8 p v).read8 q = s.read8 q := by
  unfold State.mayChange at h
  cases hp : locate p with
  | rom =>
    simp only [hp] at h
    rw [s.write8_rom v hp]
    cases hcart : s.cart with
    | bankSwitching rom m =>
      exact s.read8_withCart _ (fun hq => h ⟨rom, m, hcart, .inl hq⟩) (fun hq => h ⟨rom, m, hcart, .inr hq⟩)
    | _ => simp only [Cart.writeRom, ← hcart]
  | array st i =>
    simp only [hp] at h
    have hpoke (w : Byte) : (s.poke st i w).read8 q = s.read8 q := by
      rw [State.read8_poke s st i w q (hs.arrays st).1, if_neg fun hq => h (.inl (sameByte_of_locate hp hq))]
    rw [s.write8_array v hp]
    rcases arrayWrite_cases st i v s with ⟨rfl, rfl, heq⟩ | ⟨w, heq⟩
    · rw [heq, State.read8_dmaCopy_of_ne_oam _ v fun k hq => h (.inr ⟨rfl, rfl, k, hq⟩), hpoke]
    · rw [heq, hpoke]
  | extRam =>
    simp only [hp] at h
    rw [s.write8_extRam v hp]
    by_cases hrom : locate q = .rom
    · rw [State.read8_rom _ hrom, State.read8_rom _ hrom]
      exact Cart.readRom_writeRam _ _ _ _ _
    by_cases hram : locate q = .extRam
    · rw [State.read8_extRam _ hram, State.read8_extRam _ hram]
      refine Cart.readRam_writeRam_of_ne v hs.cart fun rom m hcart hindex => h ⟨hram, ?_⟩
      simpa only [State.ramCell, hcart] using hindex
    · exact s.read8_withCart _ hrom hram
  | unusable => rw [s.write8_unusable v hp]

/-- A store moves the external RAM cell of an address only by writing a bank register, which reaches the whole window (R84, R86). -/
theorem State.ramCell_write8 (s : State) {p q : Word} (v : Byte) (h : ¬ s.mayChange p q) (hq : locate q = .extRam) (a : Word) :
    (s.write8 p v).ramCell a = s.ramCell a := by
  unfold State.ramCell
  rw [s.write8_cfg]
  cases hp : locate p with
  | rom =>
    rw [s.write8_rom v hp]
    cases hcart : s.cart with
    | bankSwitching rom m =>
      simp only [State.mayChange, hp] at h
      exact absurd ⟨rom, m, hcart, .inr hq⟩ h
    | _ => rfl
  | array st i => rw [s.write8_array v hp, arrayWrite_cart]
  | extRam =>
    rw [s.write8_extRam v hp]
    cases hcart : s.cart with
    | bankSwitching rom m =>
      cases hon : m.ramEnabled with
      | true => simp only [Cart.writeRam_enabled _ rom p v hon]; rfl
      | false => simp only [Cart.writeRam_disabled _ rom p v hon]
    | _ => rfl
  | unusable => rw [s.write8_unusable v hp]

/-- After a store that cannot reach `q`, another store reaches `q` only if it does from the state before. -/
theorem State.mayChange_of_write8 {s : State} {p p' q : Word} (v : Byte) (h : ¬ s.mayChange p q)
    (h' : (s.write8 p v).mayChange p' q) : s.mayChange p' q := by
  unfold State.mayChange at h' ⊢
  cases hp' : locate p' with
  | rom =>
    simp only [hp'] at h' ⊢
    obtain ⟨rom, m, hcart, hq⟩ := h'
    have hbanked : s.cart.banked = true := (s.write8_keeps p v).banked ▸ hcart ▸ rfl
    cases hs : s.cart with
    | bankSwitching rom m => exact ⟨rom, m, rfl, hq⟩
    | _ => simp only [hs, Cart.banked, Bool.false_eq_true] at hbanked
  | array st i => simpa only [hp'] using h'
  | extRam =>
    simp only [hp'] at h' ⊢
    obtain ⟨hq, hcell⟩ := h'
    rw [s.ramCell_write8 v h hq, s.ramCell_write8 v h hq] at hcell
    exact ⟨hq, hcell⟩
  | unusable => simp only [hp'] at h'

end Sys2Proof.Machine

/-! What the stores of an instruction can reach: each instruction is a sequence of bus writes and changes of registers (R62, R89). -/

namespace Sys2Proof.Machine

/-- Two states with the same bytes behind the bus: the arrays, the cartridge and the parameters. -/
structure SameMemory (s t : State) : Prop where
  arrays : ∀ st, t.array st = s.array st
  cart : t.cart = s.cart
  cfg : t.cfg = s.cfg

theorem SameMemory.refl (s : State) : SameMemory s s := ⟨fun _ => rfl, rfl, rfl⟩

theorem SameMemory.trans {s t u : State} (h : SameMemory s t) (k : SameMemory t u) : SameMemory s u :=
  ⟨fun st => (k.arrays st).trans (h.arrays st), k.cart.trans h.cart, k.cfg.trans h.cfg⟩

theorem SameMemory.read8 {s t : State} (h : SameMemory s t) (q : Word) : t.read8 q = s.read8 q := by
  unfold State.read8
  rw [h.cart, h.cfg]
  simp only [h.arrays]

theorem SameMemory.mayChange {s t : State} (h : SameMemory s t) {p q : Word} (hreach : t.mayChange p q) : s.mayChange p q := by
  unfold State.mayChange State.ramCell at hreach ⊢
  rwa [h.cart, h.cfg] at hreach

theorem SameMemory.memoryWf {s t : State} (h : SameMemory s t) (hs : s.memoryWf) : t.memoryWf :=
  State.memoryWf_congr hs h.arrays h.cart h.cfg

theorem SameMemory.onCond {s : State} {rule : State → State} (cc : Cond) (h : SameMemory s (rule s)) :
    SameMemory s (s.onCond cc rule) := by
  unfold State.onCond
  split
  · exact h
  · exact .refl s

theorem State.setFlags_sameMemory (s : State) (z n h c : Option Bool) : SameMemory s (s.setFlags z n h c) := ⟨fun _ => rfl, rfl, rfl⟩

theorem State.jump_sameMemory (s : State) (target : Word) : SameMemory s (s.jump target) := ⟨fun _ => rfl, rfl, rfl⟩

/-- From one state to another by one bus write to each of the addresses, in their order, and changes of registers. -/
inductive StoresAt : List Word → State → State → Prop
  | nothing {s t : State} (same : SameMemory s t) : StoresAt [] s t
  | store {s t u : State} {p : Word} {ps : List Word} (v : Byte) (same : SameMemory s u) (rest : StoresAt ps (u.write8 p v) t) :
      StoresAt (p :: ps) s t

/-- One bus write, and changes of registers after it. -/
theorem StoresAt.one {s t : State} {p : Word} (v : Byte) (h : SameMemory (s.write8 p v) t) : StoresAt [p] s t :=
  .store v (.refl s) (.nothing h)

theorem StoresAt.andRegisters {ps : List Word} {s t u : State} (h : StoresAt ps s t) (k : SameMemory t u) : StoresAt ps s u := by
  induction h with
  | nothing same => exact .nothing (same.trans k)
  | store v same _ ih => exact .store v same (ih k)

theorem StoresAt.afterRegisters {ps : List Word} {s t u : State} (h : StoresAt ps t u) (k : SameMemory s t) : StoresAt ps s u := by
  cases h with
  | nothing same => exact .nothing (k.trans same)
  | store v same rest => exact .store v (k.trans same) rest

/-- A rule under a condition that does not hold stores nothing (R200). -/
theorem StoresAt.onCond {s : State} {rule : State → State} {ps : List Word} (cc : Cond) (h : StoresAt ps s (rule s)) :
    StoresAt (if s.cond cc then ps else []) s (s.onCond cc rule) := by
  unfold State.onCond
  split
  · exact h
  · exact .nothing (.refl s)

/-- A sequence of stores changes no byte that none of them can reach from the first state (R89). -/
theorem StoresAt.read8 {ps : List Word} {s t : State} (h : StoresAt ps s t) (hs : s.memoryWf) {q : Word}
    (hq : ∀ p ∈ ps, ¬ s.mayChange p q) : t.read8 q = s.read8 q := by
  induction h with
  | nothing same => exact same.read8 q
  | @store s t u p ps v same _ ih =>
    have hu : u.memoryWf := same.memoryWf hs
    have hpu : ¬ u.mayChange p q := fun hreach => hq p List.mem_cons_self (same.mayChange hreach)
    have hrest (p' : Word) (hp' : p' ∈ ps) : ¬ (u.write8 p v).mayChange p' q := fun hreach =>
      hq p' (List.mem_cons_of_mem p hp') (same.mayChange (State.mayChange_of_write8 v hpu hreach))
    rw [ih (State.memoryWf_write8 p v hu) hrest, State.read8_write8_frame v hu hpu, same.read8]

/-- A push stores the low byte of the word, then the high byte (R220). -/
theorem State.push16_storesAt (s : State) (v : Word) : StoresAt [s.sp - 2, s.sp - 2 + 1] s (s.push16 v) :=
  .store (u := { s with sp := s.sp - 2 }) (loByte v) ⟨fun _ => rfl, rfl, rfl⟩ (.one (hiByte v) (.refl _))

/-- A call stores the return address (R206, R211, R220). -/
theorem State.call_storesAt (s : State) (target : Word) : StoresAt [s.sp - 2, s.sp - 2 + 1] s (s.call target) :=
  (s.push16_storesAt s.pc).andRegisters (State.jump_sameMemory _ _)

/-- An operand write stores at HL where the operand is the byte there, and nowhere else (R150, R284). -/
theorem State.put8_storesAt (s : State) (r : R8) (v : Byte) : StoresAt (if r = .atHl then [s.hl] else []) s (s.put8 r v) := by
  cases r with
  | atHl => exact .one v (.refl _)
  | _ => exact .nothing ⟨fun _ => rfl, rfl, rfl⟩

theorem State.inc8_storesAt (s : State) (r : R8) : StoresAt (if r = .atHl then [s.hl] else []) s (s.inc8 r) :=
  (s.put8_storesAt r _).andRegisters (State.setFlags_sameMemory _ _ _ _ _)

theorem State.dec8_storesAt (s : State) (r : R8) : StoresAt (if r = .atHl then [s.hl] else []) s (s.dec8 r) :=
  (s.put8_storesAt r _).andRegisters (State.setFlags_sameMemory _ _ _ _ _)

theorem State.shiftOperand_storesAt (s : State) (op : ShiftOp) (r : R8) :
    StoresAt (if r = .atHl then [s.hl] else []) s (s.shiftOperand op r) :=
  (s.put8_storesAt r _).andRegisters (State.setFlags_sameMemory _ _ _ _ _)

theorem State.resetBit_storesAt (s : State) (b : Nat) (r : R8) : StoresAt (if r = .atHl then [s.hl] else []) s (s.resetBit b r) :=
  s.put8_storesAt r _

theorem State.setBit_storesAt (s : State) (b : Nat) (r : R8) : StoresAt (if r = .atHl then [s.hl] else []) s (s.setBit b r) :=
  s.put8_storesAt r _

/-- A prefixed instruction stores at HL or nowhere, whatever the state (R284). -/
theorem prefixedStores_eq (i : Instr) (s : State) :
    prefixedStores i s = if prefixedStores i State.reset = [] then [] else [s.hl] := by
  cases i <;> rfl

/-- The second bytes whose instruction stores nothing: those with a register operand, and BIT (R126). -/
theorem prefixedStores_decodePrefixed_reset : ∀ op2 : Byte, prefixedStores (decodePrefixed op2) State.reset = [] ↔
    R8.ofCode (op2.extractLsb' 0 3) ≠ .atHl ∨ (op2.extractLsb' 6 2).toNat = 1 := by
  decide

theorem prefixedStores_of_bit {op2 : Byte} (s : State) (h : (op2.extractLsb' 6 2).toNat = 1) :
    prefixedStores (decodePrefixed op2) s = [] := by
  rw [prefixedStores_eq, if_pos ((prefixedStores_decodePrefixed_reset op2).mpr (.inr h))]

theorem prefixedStores_of_ne_bit {op2 : Byte} (s : State) (h : (op2.extractLsb' 6 2).toNat ≠ 1) :
    prefixedStores (decodePrefixed op2) s = if R8.ofCode (op2.extractLsb' 0 3) = .atHl then [s.hl] else [] := by
  rw [prefixedStores_eq]
  simp only [prefixedStores_decodePrefixed_reset, h, or_false, ite_not]

/-- The prefixed instruction of a second byte stores where its rule does (R126, R284 to R295). -/
theorem State.prefixedRule_storesAt (s : State) (op2 : Byte) :
    StoresAt (prefixedStores (decodePrefixed op2) s) s (s.prefixedRule op2) := by
  unfold State.prefixedRule
  dsimp only
  split
  case h_1 hshift => exact prefixedStores_of_ne_bit s (by rw [hshift]; decide) ▸ s.shiftOperand_storesAt _ _
  case h_2 hbit => exact prefixedStores_of_bit s hbit ▸ .nothing (State.setFlags_sameMemory _ _ _ _ _)
  case h_3 hres => exact prefixedStores_of_ne_bit s (by rw [hres]; decide) ▸ s.resetBit_storesAt _ _
  case h_4 hset _ => exact prefixedStores_of_ne_bit s hset ▸ s.setBit_storesAt _ _

/-- An instruction performs a rule whose bus writes are at the addresses that `storeAddresses` gives. -/
def PerformsStores (i : Instr) : Prop :=
  ∃ (j : Instr) (rule : State → State), (∀ s, exec i s = perform j rule s) ∧ ∀ s, StoresAt (storeAddresses i s) s (rule s)

/-- The bus writes of each instruction: the loads to memory, the read-modify-write forms of (HL), the pushes and the calls by name,
and none for every other. -/
theorem performsStores (i : Instr) : PerformsStores i := by
  cases i
  case prefixCb op2 => exact ⟨_, _, fun _ => rfl, fun s => s.prefixedRule_storesAt op2⟩
  -- `exec` is reduced to its arm first: the arm names the rule.
  all_goals refine ⟨_, _, fun _ => by dsimp only [exec]; exact rfl, fun s => ?_⟩
  case ldAtA16Sp a16 => exact .store (loByte s.sp) (.refl s) (.one (hiByte s.sp) (.refl _))
  case ldAtBcA | ldAtDeA | ldAtHlIncA | ldAtHlDecA | ldhAtA8A | ldAtCA | ldAtA16A => exact .one s.a ⟨fun _ => rfl, rfl, rfl⟩
  case incAtHl => exact s.inc8_storesAt .atHl
  case decAtHl => exact s.dec8_storesAt .atHl
  case ldAtHlN8 | ldAtHlB | ldAtHlC | ldAtHlD | ldAtHlE | ldAtHlH | ldAtHlL | ldAtHlA => exact s.put8_storesAt .atHl _
  case rlcAtHl | rrcAtHl | rlAtHl | rrAtHl | slaAtHl | sraAtHl | swapAtHl | srlAtHl => exact s.shiftOperand_storesAt _ .atHl
  case res0AtHl | res1AtHl | res2AtHl | res3AtHl | res4AtHl | res5AtHl | res6AtHl | res7AtHl => exact s.resetBit_storesAt _ .atHl
  case set0AtHl | set1AtHl | set2AtHl | set3AtHl | set4AtHl | set5AtHl | set6AtHl | set7AtHl => exact s.setBit_storesAt _ .atHl
  case pushBc | pushDe | pushHl | pushAf => exact s.push16_storesAt _
  case callA16 | rst00 | rst08 | rst10 | rst18 | rst20 | rst28 | rst30 | rst38 => exact s.call_storesAt _
  case callNzA16 | callZA16 | callNcA16 | callCA16 => exact .onCond _ (s.call_storesAt _)
  case jpNzA16 | jpZA16 | jpNcA16 | jpCA16 | jrNzE8 | jrZE8 | jrNcE8 | jrCE8 | retNz | retZ | retNc | retC =>
    exact .nothing (.onCond _ ⟨fun _ => rfl, rfl, rfl⟩)
  all_goals exact .nothing ⟨fun _ => rfl, rfl, rfl⟩

/-- The addresses at which an instruction stores do not depend on PC or `lastDecoded`. -/
theorem storeAddresses_start (i : Instr) (s : State) (d : Descriptor) : storeAddresses i (s.start d) = storeAddresses i s := by
  cases i with
  | prefixCb op2 => exact (prefixedStores_eq _ _).trans (prefixedStores_eq _ s).symm
  | _ => rfl

/-- What `exec` does to memory: nothing where a fault was raised (R304), and else the stores of the instruction. -/
theorem exec_storesAt {i : Instr} {s t : State} (h : exec i s = .next t) : SameMemory s t ∨ StoresAt (storeAddresses i s) s t := by
  obtain ⟨j, rule, hexec, hstores⟩ := performsStores i
  rw [hexec] at h
  rcases perform_cases h with ⟨d, -, -, ht⟩ | ⟨f, -, ht⟩
  · cases ht
    have hstart := hstores (s.start d)
    rw [storeAddresses_start] at hstart
    exact .inr (hstart.afterRegisters ⟨s.start_array d, s.start_cart d, s.start_cfg d⟩)
  · cases ht
    exact .inl ⟨s.raise_array f, s.raise_cart f, s.raise_cfg f⟩

/-- Settles O26: memory changes only by the stores of the instruction, one bus write after the other; a bus write changes no byte
that it cannot reach, and the second of two writes reaches no more than it would from the state before the first. -/
theorem storesFrameMemory : Obligations.StoresFrameMemory := by
  unfold Obligations.StoresFrameMemory
  constructor
  · intro i s t hs h q hq
    rcases exec_storesAt h with same | stores
    · exact same.read8 q
    · exact stores.read8 hs hq
  · intro i s t h hnone
    rcases exec_storesAt h with same | stores
    · exact ⟨same.cart, same.arrays⟩
    · rw [hnone] at stores
      cases stores with
      | nothing same => exact ⟨same.cart, same.arrays⟩

end Sys2Proof.Machine

/-! The formats of the opcode maps (R120, R127, R128): encoding and decoding are inverse to each other. -/

namespace Sys2Proof.Machine

/-- What the decoder makes of an instruction's own bytes, whatever follows them: its first byte tells how many they are, and they
read back as the instruction (R120, R121). -/
def ReadsBack (i : Instr) : Prop :=
  ∃ b0 operands, encode i = b0 :: operands ∧ instrLength b0 = operands.length + 1 ∧
    ∀ rest : List Byte, decodeBytes b0 ((operands ++ rest).getD 0 0) ((operands ++ rest).getD 1 0) = i

/-- Row by row: a 16-bit immediate is put together again from its two bytes (R128), and every other operand is read as it stands. -/
theorem readsBack_of_wf {i : Instr} (h : i.wf = true) : ReadsBack i := by
  cases i
  case prefixCb => cases h
  case illegal op =>
    have hop : op ∈ illegalOpcodes := List.contains_iff_mem.mp h
    simp only [illegalOpcodes, List.mem_cons, List.not_mem_nil, or_false] at hop
    rcases hop with rfl | rfl | rfl | rfl | rfl | rfl | rfl | rfl | rfl | rfl | rfl <;> exact ⟨_, _, rfl, rfl, fun _ => rfl⟩
  case ldBcN16 w | ldDeN16 w | ldHlN16 w | ldSpN16 w | ldAtA16Sp w | ldAtA16A w | ldAAtA16 w | jpA16 w | jpNzA16 w | jpZA16 w
    | jpNcA16 w | jpCA16 w | callA16 w | callNzA16 w | callZA16 w | callNcA16 w | callCA16 w =>
    exact ⟨_, _, rfl, rfl, fun _ => congrArg _ (wordOf_bytes w)⟩
  all_goals exact ⟨_, _, rfl, rfl, fun _ => rfl⟩

/-- Decoding where enough bytes follow the first (R121). -/
theorem decode_of_length {b0 : Byte} {rest : List Byte} (h : instrLength b0 ≤ rest.length + 1) :
    decode (b0 :: rest) = .ok (decodeBytes b0 (rest.getD 0 0) (rest.getD 1 0), (b0 :: rest).drop (instrLength b0)) := by
  unfold decode
  exact if_neg (Nat.not_lt.mpr h)

/-- An instruction that was decoded is the one at the first three bytes. -/
theorem eq_decodeBytes_of_decode {b0 : Byte} {rest rest' : List Byte} {i : Instr} (h : decode (b0 :: rest) = .ok (i, rest')) :
    i = decodeBytes b0 (rest.getD 0 0) (rest.getD 1 0) := by
  unfold decode at h
  dsimp only at h
  split at h
  · cases h
  · cases h; rfl

/-- Settles O1: the bytes read back as the instruction (`readsBack_of_wf`), and as many are dropped as it has. -/
theorem decodeInvertsEncode : Obligations.DecodeInvertsEncode := by
  unfold Obligations.DecodeInvertsEncode
  intro i rest hwf
  obtain ⟨b0, operands, hbytes, hlength, hreads⟩ := readsBack_of_wf hwf
  have henough : instrLength b0 ≤ (operands ++ rest).length + 1 := by
    rw [hlength, List.length_append]
    omega
  rw [hbytes, List.cons_append, decode_of_length henough, hreads, hlength, List.drop_succ_cons, List.drop_left]

/-- The three formats of a row of the primary opcode map: the opcode alone, an opcode with a byte (R127, R129, R130), an opcode
with a little-endian word (R128). The bytes of the row are those it was read from; only the row PREFIX CB is not well-formed. -/
inductive RowFormat (op : Byte) (row : Byte → Byte → Instr) : Prop where
  | opcode (i : Instr) (reads : row = fun _ _ => i) (bytes : encode i = [op]) (wf : i.wf = true)
  | opcodeByte (i : Byte → Instr) (reads : row = fun lo _ => i lo) (bytes : ∀ v, encode (i v) = [op, v])
      (wf : op = 0xCB ∨ ∀ v, (i v).wf = true)
  | opcodeWord (i : Word → Instr) (reads : row = fun lo hi => i (wordOf lo hi)) (bytes : ∀ w, encode (i w) = [op, loByte w, hiByte w])
      (wf : ∀ w, (i w).wf = true)

/-- Each row of the primary opcode map has one of the formats: the one that its function of the two bytes after it fits. -/
theorem decodePrimary_rowFormat (op : Byte) : RowFormat op (decodePrimary op) := by
  obtain ⟨⟨n, hn⟩⟩ := op
  interval_cases n
  -- Only the constructor of the row's own format unifies with its function; the last line is the row PREFIX CB.
  all_goals first
    | exact .opcode _ rfl rfl rfl
    | exact .opcodeByte _ rfl (fun _ => rfl) (.inr fun _ => rfl)
    | exact .opcodeWord _ rfl (fun _ => rfl) (fun _ => rfl)
    | exact .opcodeByte .prefixCb rfl (fun _ => rfl) (.inl rfl)

/-- A row of the primary opcode map encodes to the bytes it was read from, as many as its opcode tells (R121). -/
theorem encode_decodePrimary (op b1 b2 : Byte) : encode (decodePrimary op b1 b2) = [op, b1, b2].take (instrLength op) := by
  unfold instrLength
  cases decodePrimary_rowFormat op with
  | opcode i reads bytes _ => simp [reads, bytes]
  | opcodeByte i reads bytes _ => simp [reads, bytes]
  | opcodeWord i reads bytes _ => simp [reads, bytes]

/-- Every row of the primary opcode map but PREFIX CB is well-formed (R134, R266). -/
theorem wf_decodePrimary {op : Byte} (b1 b2 : Byte) (h : op ≠ 0xCB) : (decodePrimary op b1 b2).wf = true := by
  cases decodePrimary_rowFormat op with
  | opcode i reads _ wf => rw [reads]; exact wf
  | opcodeByte i reads _ wf => rw [reads]; exact wf.resolve_left h b1
  | opcodeWord i reads _ wf => rw [reads]; exact wf _

theorem encode_decodePrefixed : ∀ op2 : Byte, encode (decodePrefixed op2) = [0xCB, op2] := by decide

theorem wf_decodePrefixed : ∀ op2 : Byte, (decodePrefixed op2).wf = true := by decide

theorem wf_decodeBytes (b0 b1 b2 : Byte) : (decodeBytes b0 b1 b2).wf = true := by
  unfold decodeBytes
  split
  · exact wf_decodePrefixed b1
  · exact wf_decodePrimary b1 b2 ‹_›

theorem encode_decodeBytes (b0 b1 b2 : Byte) : encode (decodeBytes b0 b1 b2) = [b0, b1, b2].take (instrLength b0) := by
  unfold decodeBytes
  split
  · subst b0; exact encode_decodePrefixed b1
  · exact encode_decodePrimary b0 b1 b2

/-- Settles O2: a prefixed row has its two bytes (`encode_decodePrefixed`), a primary row those of its format
(`encode_decodePrimary`). -/
theorem encodeInvertsDecode : Obligations.EncodeInvertsDecode := by
  unfold Obligations.EncodeInvertsDecode
  exact fun b0 b1 b2 => ⟨wf_decodeBytes b0 b1 b2, encode_decodeBytes b0 b1 b2⟩

end Sys2Proof.Machine

/-! What an executed instruction does to the flags, against the policy of its descriptor (R132). -/

namespace Sys2Proof.Machine

/-- Each flag of the flags byte `after` is as the policy says, given the flags byte `before` (R22, R132). -/
structure FollowsPolicy (p : FlagPolicy) (before after : Byte) : Prop where
  z : p.z.holds (before.getLsbD 7) (after.getLsbD 7)
  n : p.n.holds (before.getLsbD 6) (after.getLsbD 6)
  h : p.h.holds (before.getLsbD 5) (after.getLsbD 5)
  c : p.c.holds (before.getLsbD 4) (after.getLsbD 4)

/-- The writes of one flag that its policy permits: `State.setFlags` is given the flag's new value, or none to leave it. -/
def PermitsWrite (e : FlagEffect) (written : Option Bool) : Prop :=
  match e with
  | .reset => written = some false
  | .set => written = some true
  | .unaffected => written = none
  | .depends => True

/-- A permitted write has the effect that the policy says. -/
theorem PermitsWrite.holds {e : FlagEffect} {written : Option Bool} (h : PermitsWrite e written) (before : Bool) :
    e.holds before (written.getD before) := by
  cases e with
  | depends => trivial
  | _ => cases h; rfl

/-- The policy of a row that writes no flag is followed where F is left alone. -/
theorem FollowsPolicy.unchanged {f f' : Byte} (h : f' = f) : FollowsPolicy FlagPolicy.none f f' := by
  subst h
  exact ⟨rfl, rfl, rfl, rfl⟩

/-- A rule that ends in permitted writes of the flags, and writes no flag before, follows the policy. -/
theorem FollowsPolicy.written {p : FlagPolicy} {f : Byte} {t : State} {z n h c : Option Bool} (hf : t.f = f) (hz : PermitsWrite p.z z)
    (hn : PermitsWrite p.n n) (hh : PermitsWrite p.h h) (hc : PermitsWrite p.c c) : FollowsPolicy p f (t.setFlags z n h c).f := by
  subst hf
  obtain ⟨bitZ, bitN, bitH, bitC, -⟩ := packFlags_bits (z.getD t.flagZ) (n.getD t.flagN) (h.getD t.flagH) (c.getD t.flagC)
  exact ⟨bitZ.symm ▸ hz.holds _, bitN.symm ▸ hn.holds _, bitH.symm ▸ hh.holds _, bitC.symm ▸ hc.holds _⟩

@[simp] theorem State.put8_f (s : State) (r : R8) (v : Byte) : (s.put8 r v).f = s.f := by
  cases r with
  | atHl => exact s.write8_f s.hl v
  | _ => rfl
@[simp] theorem State.put16_f (s : State) (r : R16) (v : Word) : (s.put16 r v).f = s.f := by cases r <;> rfl
@[simp] theorem State.push16_f (s : State) (v : Word) : (s.push16 v).f = s.f := by simp [State.push16]
@[simp] theorem State.afterAccess_f (s : State) (m : MemOperand) : (s.afterAccess m).f = s.f := by cases m <;> rfl

@[simp] theorem State.ld8_f (s : State) (r r' : R8) : (s.ld8 r r').f = s.f := s.put8_f r _
@[simp] theorem State.ld8Imm_f (s : State) (r : R8) (v : Byte) : (s.ld8Imm r v).f = s.f := s.put8_f r v
@[simp] theorem State.loadA_f (s : State) (m : MemOperand) : (s.loadA m).f = s.f := State.afterAccess_f _ m
@[simp] theorem State.storeA_f (s : State) (m : MemOperand) : (s.storeA m).f = s.f := by simp [State.storeA]
@[simp] theorem State.ld16Imm_f (s : State) (r : R16) (v : Word) : (s.ld16Imm r v).f = s.f := s.put16_f r v
@[simp] theorem State.storeSp_f (s : State) (p : Word) : (s.storeSp p).f = s.f := s.write16_f p _
@[simp] theorem State.ldSpFromHl_f (s : State) : s.ldSpFromHl.f = s.f := rfl
@[simp] theorem State.inc16_f (s : State) (r : R16) : (s.inc16 r).f = s.f := s.put16_f r _
@[simp] theorem State.dec16_f (s : State) (r : R16) : (s.dec16 r).f = s.f := s.put16_f r _
@[simp] theorem State.pushPair_f (s : State) (q : Pair) : (s.pushPair q).f = s.f := s.push16_f _
/-- Of the pairs only AF holds F (R24). -/
@[simp] theorem State.popPair_f (s : State) {q : Pair} (h : q ≠ .af) : (s.popPair q).f = s.f := by
  cases q with
  | af => exact absurd rfl h
  | _ => rfl
@[simp] theorem State.jumpRel_f (s : State) (e8 : Byte) : (s.jumpRel e8).f = s.f := rfl
@[simp] theorem State.call_f (s : State) (target : Word) : (s.call target).f = s.f := by simp [State.call]
@[simp] theorem State.ret_f (s : State) : s.ret.f = s.f := rfl
@[simp] theorem State.retEnable_f (s : State) : s.retEnable.f = s.f := rfl
/-- A rule under a condition leaves F alone where the rule does (R200). -/
theorem State.onCond_f {s : State} {rule : State → State} (cc : Cond) (h : (rule s).f = s.f) : (s.onCond cc rule).f = s.f := by
  unfold State.onCond
  split
  · exact h
  · rfl
@[simp] theorem State.resetBit_f (s : State) (b : Nat) (r : R8) : (s.resetBit b r).f = s.f := s.put8_f r _
@[simp] theorem State.setBit_f (s : State) (b : Nat) (r : R8) : (s.setBit b r).f = s.f := s.put8_f r _

/-- An instruction performs a rule that follows the flag policy of its descriptor. -/
def PerformsByPolicy (i : Instr) : Prop :=
  ∃ rule : State → State, (∀ s, exec i s = perform i rule s) ∧ ∀ d, i.descriptor = some d → ∀ s, FollowsPolicy d.flags s.f (rule s).f

/-- The form in which the rows of the instruction table are gone through: a rule that follows the policy of the row. -/
theorem PerformsByPolicy.of_row {i : Instr} {d : Descriptor} (rule : State → State) (hexec : ∀ s, exec i s = perform i rule s)
    (hd : i.descriptor = some d) (h : ∀ s, FollowsPolicy d.flags s.f (rule s).f) : PerformsByPolicy i :=
  ⟨rule, hexec, fun d' hd' s => by cases hd.symm.trans hd'; exact h s⟩

/-- Every well-formed instruction follows its policy: POP AF, whose policy claims nothing of a flag; the instructions that write
flags, by what they give to `State.setFlags`; and every other leaves F alone. -/
theorem performsByPolicy {i : Instr} (h : i.wf = true) : PerformsByPolicy i := by
  cases i
  case prefixCb => cases h
  case illegal => exact ⟨fun t => t, fun _ => rfl, fun _ hd => by cases hd⟩
  all_goals refine .of_row _ (fun _ => by dsimp only [exec]; exact rfl) rfl fun s => ?_
  -- Below, `.written` is given: F before the flags are written, then the writes of Z, N, H and C.
  case popAf => exact ⟨trivial, trivial, trivial, trivial⟩
  case incB | incC | incD | incE | incH | incL | incAtHl | incA | decB | decC | decD | decE | decH | decL | decAtHl | decA =>
    exact .written (s.put8_f _ _) trivial rfl trivial rfl
  case addAB | addAC | addAD | addAE | addAH | addAL | addAAtHl | addAA | addAN8 | adcAB | adcAC | adcAD | adcAE | adcAH
    | adcAL | adcAAtHl | adcAA | adcAN8 | subAB | subAC | subAD | subAE | subAH | subAL | subAAtHl | subAA | subAN8 | sbcAB
    | sbcAC | sbcAD | sbcAE | sbcAH | sbcAL | sbcAAtHl | sbcAA | sbcAN8 | cpAB | cpAC | cpAD | cpAE | cpAH | cpAL | cpAAtHl | cpAA
    | cpAN8 =>
    exact .written rfl trivial rfl trivial trivial
  case andAB | andAC | andAD | andAE | andAH | andAL | andAAtHl | andAA | andAN8 | xorAB | xorAC | xorAD | xorAE | xorAH
    | xorAL | xorAAtHl | xorAA | xorAN8 | orAB | orAC | orAD | orAE | orAH | orAL | orAAtHl | orAA | orAN8 =>
    exact .written rfl trivial rfl rfl rfl
  case daa => exact .written rfl trivial rfl rfl trivial
  case cpl => exact .written rfl rfl rfl rfl rfl
  case scf => exact .written rfl rfl rfl rfl rfl
  case ccf => exact .written rfl rfl rfl rfl trivial
  case addHlBc | addHlDe | addHlHl | addHlSp => exact .written rfl rfl rfl trivial trivial
  case addSpE8 | ldHlSpE8 => exact .written rfl rfl rfl trivial trivial
  case rlca | rrca | rla | rra => exact .written rfl rfl rfl rfl trivial
  case rlcB | rlcC | rlcD | rlcE | rlcH | rlcL | rlcAtHl | rlcA | rrcB | rrcC | rrcD | rrcE | rrcH | rrcL | rrcAtHl | rrcA
    | rlB | rlC | rlD | rlE | rlH | rlL | rlAtHl | rlA | rrB | rrC | rrD | rrE | rrH | rrL | rrAtHl | rrA | slaB | slaC | slaD
    | slaE | slaH | slaL | slaAtHl | slaA | sraB | sraC | sraD | sraE | sraH | sraL | sraAtHl | sraA | srlB | srlC | srlD | srlE
    | srlH | srlL | srlAtHl | srlA =>
    exact .written (s.put8_f _ _) trivial rfl rfl trivial
  case swapB | swapC | swapD | swapE | swapH | swapL | swapAtHl | swapA =>
    exact .written (s.put8_f _ _) trivial rfl rfl rfl
  case bit0B | bit0C | bit0D | bit0E | bit0H | bit0L | bit0AtHl | bit0A | bit1B | bit1C | bit1D | bit1E | bit1H | bit1L
    | bit1AtHl | bit1A | bit2B | bit2C | bit2D | bit2E | bit2H | bit2L | bit2AtHl | bit2A | bit3B | bit3C | bit3D | bit3E | bit3H
    | bit3L | bit3AtHl | bit3A | bit4B | bit4C | bit4D | bit4E | bit4H | bit4L | bit4AtHl | bit4A | bit5B | bit5C | bit5D
    | bit5E | bit5H | bit5L | bit5AtHl | bit5A | bit6B | bit6C | bit6D | bit6E | bit6H | bit6L | bit6AtHl | bit6A | bit7B | bit7C
    | bit7D | bit7E | bit7H | bit7L | bit7AtHl | bit7A =>
    exact .written rfl trivial rfl rfl rfl
  case jpNzA16 | jpZA16 | jpNcA16 | jpCA16 | jrNzE8 | jrZE8 | jrNcE8 | jrCE8 | retNz | retZ | retNc | retC =>
    exact .unchanged (State.onCond_f _ rfl)
  case callNzA16 | callZA16 | callNcA16 | callCA16 => exact .unchanged (State.onCond_f _ (s.call_f _))
  all_goals exact .unchanged (by simp)

/-- Settles O24: an instruction that the profile implements performs its rule from the state past it, which has the same F, and the
rule follows the policy (`performsByPolicy`). -/
theorem flagsFollowTheDescriptor : Obligations.FlagsFollowTheDescriptor := by
  unfold Obligations.FlagsFollowTheDescriptor
  intro i d s t hwf hd himpl h
  obtain ⟨rule, hexec, hfollows⟩ := performsByPolicy hwf
  rw [hexec, perform_implemented rule hd himpl] at h
  cases h
  obtain ⟨hz, hn, hh, hc⟩ := hfollows d hd (s.start d)
  exact ⟨hz, hn, hh, hc⟩

end Sys2Proof.Machine

/-! The step of a ready state, illegal opcodes, the prefixed space, and the system instructions (R133 to R137, R260 to R266). -/

namespace Sys2Proof.Machine

/-- A step of a ready state executes the instruction at PC (R137). -/
theorem step_ready {s : State} (h : s.ready) : step s = exec s.fetchInstr s := by
  obtain ⟨hcart, hfault, hrun⟩ := h
  simp [step, hcart, hfault, hrun]

/-- Settles O5: what is decoded from the bytes at PC is the instruction that the step fetches. -/
theorem stepRunsTheDecodedInstruction : Obligations.StepRunsTheDecodedInstruction := by
  unfold Obligations.StepRunsTheDecodedInstruction
  intro s i rest hready hdecode _
  rw [step_ready hready, eq_decodeBytes_of_decode hdecode]
  rfl

/-- Where three bytes decode to an illegal opcode, it is the first of them and one of the eleven (R134): its own bytes are the first of
those it was decoded from, and it is well-formed. -/
theorem decodeBytes_illegal {b0 b1 b2 op : Byte} (h : decodeBytes b0 b1 b2 = .illegal op) : b0 = op ∧ op ∈ illegalOpcodes := by
  have hbytes := encode_decodeBytes b0 b1 b2
  have hwf := wf_decodeBytes b0 b1 b2
  rw [h] at hbytes hwf
  refine ⟨?_, List.contains_iff_mem.mp hwf⟩
  cases hlength : instrLength b0 with
  | zero => rw [hlength] at hbytes; cases hbytes
  | succ n => rw [hlength] at hbytes; exact (List.cons.inj hbytes).1.symm

/-- Only an instruction without a descriptor raises IllegalOpcode (R301). -/
theorem perform_fault_ne_illegalOpcode {i : Instr} {rule : State → State} {s t : State} (hd : i.descriptor.isSome = true)
    (hrule : ∀ s, Keeps s (rule s)) (hs : s.fault = none) (h : perform i rule s = .next t) (info : FaultInfo) :
    t.fault ≠ some (.illegalOpcode info) := by
  obtain ⟨d, hd⟩ := Option.isSome_iff_exists.mp hd
  cases himpl : d.implemented s.cfg.profile with
  | true =>
    rw [perform_implemented rule hd himpl] at h
    cases h
    rw [(hrule _).fault, State.start_fault, hs]
    nofun
  | false =>
    rw [perform_unsupported rule hd himpl] at h
    cases h
    nofun

theorem lookup_primary_eq_none_iff : ∀ op : Byte, lookup op false = none ↔ op ∈ illegalOpcodes := by decide

/-- Settles O10. The first clause is read off the table; for the second, the instruction at PC is then no illegal opcode, so it has
a descriptor, and what it performs raises no IllegalOpcode. -/
theorem onlyElevenOpcodesAreIllegal : Obligations.OnlyElevenOpcodesAreIllegal := by
  unfold Obligations.OnlyElevenOpcodesAreIllegal
  refine ⟨lookup_primary_eq_none_iff, fun s t hready hlegal h => ?_⟩
  have hfetched (op : Byte) : s.fetchInstr ≠ .illegal op := by
    intro hop
    obtain ⟨rfl, hmem⟩ := decodeBytes_illegal hop
    exact hlegal hmem
  have hwf : s.fetchInstr.wf = true := wf_decodeBytes _ _ _
  obtain ⟨j, rule, hexec, hkeeps, hj⟩ := exec_performs s.fetchInstr
  obtain rfl := hj.resolve_right fun ⟨op2, hop2, _⟩ => ne_prefixCb_of_wf hwf ⟨op2, hop2⟩
  rw [step_ready hready, hexec] at h
  obtain ⟨-, hfault, -⟩ := hready
  exact perform_fault_ne_illegalOpcode ((descriptor_isSome_iff _).mpr hfetched) hkeeps hfault h

/-- What tells a row of the prefixed table from a primary one: its space, opcode and format, and whether CORE implements it
(R133, R136). -/
def Descriptor.prefixedColumns (d : Descriptor) : Bool × Byte × Format × Bool := (d.prefixed, d.opcode, d.format, d.implemented .core)

theorem decodePrefixed_columns : ∀ op2 : Byte,
    (decodePrefixed op2).descriptor.map Descriptor.prefixedColumns = some (true, op2, .cb, false) := by decide

/-- Every second byte has a descriptor of the prefixed space, which is its own (R133, R135), and which CORE does not implement (R136). -/
theorem exists_descriptor_decodePrefixed (op2 : Byte) :
    ∃ d, (decodePrefixed op2).descriptor = some d ∧ d.prefixed = true ∧ d.opcode = op2 ∧ d.length = 2 ∧ d.implemented .core = false := by
  obtain ⟨d, hd, hcolumns⟩ := Option.map_eq_some_iff.mp (decodePrefixed_columns op2)
  obtain ⟨hprefixed, hopcode, hformat, hcore⟩ : d.prefixed = true ∧ d.opcode = op2 ∧ d.format = .cb ∧ d.implemented .core = false := by
    simpa [Descriptor.prefixedColumns] using hcolumns
  exact ⟨d, hd, hprefixed, hopcode, by rw [Descriptor.length, hformat]; rfl, hcore⟩

/-- Settles O4: the row of a second byte is found in the table, and its opcode column is that byte. -/
theorem prefixedSpaceIsComplete : Obligations.PrefixedSpaceIsComplete := by
  unfold Obligations.PrefixedSpaceIsComplete
  intro op2
  obtain ⟨d, hd, hprefixed, hopcode, hlength, -⟩ := exists_descriptor_decodePrefixed op2
  exact ⟨d, hd, hprefixed, hopcode, hlength⟩

/-- The bytes are those of the numbers below 256. -/
theorem exists_eq_ofNat (v : Byte) : ∃ n < 256, v = BitVec.ofNat 8 n := ⟨v.toNat, v.isLt, by simp⟩

/-- Row by row of the prefixed table, the instruction's arm and the rule read from the fields of the second byte are the same
(R126, R266). -/
theorem exec_prefixCb_eq (op2 : Byte) (s : State) : exec (.prefixCb op2) s = exec (decodePrefixed op2) s := by
  obtain ⟨n, hn, rfl⟩ := exists_eq_ofNat op2
  interval_cases n <;> rfl

/-- Settles O14: the row PREFIX CB performs the prefixed instruction with the rule of its fields, which no CORE profile implements
and which leaves PC past both bytes. -/
theorem prefixCbPerformsThePrefixedInstruction : Obligations.PrefixCbPerformsThePrefixedInstruction := by
  unfold Obligations.PrefixCbPerformsThePrefixedInstruction
  intro op2 s
  obtain ⟨d, hd, hprefixed, hopcode, hlength, hcore⟩ := exists_descriptor_decodePrefixed op2
  have hexec : exec (.prefixCb op2) s = perform (decodePrefixed op2) (fun t => t.prefixedRule op2) s := rfl
  refine ⟨exec_prefixCb_eq op2 s, fun hprofile => ?_, fun hprofile => ⟨(s.start d).prefixedRule op2, ?_, ?_, ?_⟩⟩
  · rw [hexec, perform_unsupported _ hd (hprofile ▸ hcore), Descriptor.opcodeBytes, hprefixed, hopcode]
    rfl
  · rw [hexec, perform_implemented _ hd (by rw [hprofile]; rfl)]
  · have hpc : ((s.start d).prefixedRule op2).pc = (s.start d).pc := congrArg Control.pc ((s.start d).prefixedRule_control op2)
    exact hpc.trans (congrArg (s.pc + BitVec.ofNat 16 ·) hlength)
  · exact ((s.start d).prefixedRule_keeps op2).fault

/-- A row that only FULL implements, in FULL: it performs its rule (R136). -/
theorem perform_full {i : Instr} {d : Descriptor} {s : State} (rule : State → State) (hd : i.descriptor = some d)
    (hprofile : s.cfg.profile = .full) : perform i rule s = .next (rule (s.start d)) :=
  perform_implemented rule hd (by rw [hprofile]; rfl)

/-- A row that CORE does not implement, in CORE: it raises UnsupportedOpcode with its opcode bytes (R302). -/
theorem perform_core_unsupported {i : Instr} {d : Descriptor} {s : State} (rule : State → State) (hd : i.descriptor = some d)
    (hprofile : s.cfg.profile = .core) (hcore : d.implemented .core = false) :
    perform i rule s = .next (s.unsupported d.opcodeBytes d.prefixed) :=
  perform_unsupported rule hd (by rw [hprofile]; exact hcore)

/-- Settles O57: NOP, DI and STOP are rows of both profiles, EI and HALT of FULL only; each rule writes one field, NOP's none. -/
theorem systemInstructions : Obligations.SystemInstructions := by
  unfold Obligations.SystemInstructions
  intro s
  refine ⟨⟨rfl, ?_⟩, ⟨rfl, ?_⟩, fun x => ⟨rfl, ?_⟩, ⟨rfl, fun hfull => ?_, fun hcore => ?_⟩, ⟨rfl, fun hfull => ?_, fun hcore => ?_⟩⟩
  -- `exec` is reduced to its arm, which names the rule.
  all_goals dsimp only [exec]
  · exact (perform_core (i := .nop) (fun t => t) s rfl rfl :)
  · exact (perform_core (i := .di) (fun t => t.setIme false) s rfl rfl :)
  · exact (perform_core (i := .stop x) (fun t => t.setRun .stopped) s rfl rfl :)
  · exact (perform_full (i := .ei) (fun t => t.setIme true) rfl hfull :)
  · exact (perform_core_unsupported (i := .ei) (fun t => t.setIme true) rfl hcore rfl :)
  · exact (perform_full (i := .halt) (fun t => t.setRun .halted) rfl hfull :)
  · exact (perform_core_unsupported (i := .halt) (fun t => t.setRun .halted) rfl hcore rfl :)

/-- Settles O3: the decoder computes each word. -/
theorem sampleWordsDecode : Obligations.SampleWordsDecode := by
  unfold Obligations.SampleWordsDecode
  decide

end Sys2Proof.Machine

/-! The rows of the primary table, and 8-bit arithmetic and logic (R150 to R186): what each shared rule writes, then the forms that
perform it. -/

namespace Sys2Proof.Machine

/-- What a row of the primary table fixes besides its rule: its length, the opcode bytes a fault records, its space, and whether CORE
implements it (R133, R136, R302). -/
def Descriptor.primaryColumns (d : Descriptor) : Nat × List Byte × Bool × Bool :=
  (d.length, d.opcodeBytes, d.prefixed, d.implemented .core)

/-- `i` is a row of the primary table: it is encoded as `bytes`, it performs `rule`, and `core` is whether CORE implements it
(R133, R136, R137). -/
structure PrimaryRow (i : Instr) (bytes : List Byte) (core : Bool) (rule : State → State) : Prop where
  encode : encode i = bytes
  performs : ∀ s, exec i s = perform i rule s
  columns : i.descriptor.map Descriptor.primaryColumns = some (bytes.length, bytes.take 1, false, core)

theorem PrimaryRow.exists_descriptor {i : Instr} {bytes : List Byte} {core : Bool} {rule : State → State}
    (row : PrimaryRow i bytes core rule) : ∃ d, i.descriptor = some d ∧ d.length = bytes.length ∧ d.opcodeBytes = bytes.take 1 ∧
      d.prefixed = false ∧ d.implemented .core = core := by
  obtain ⟨d, hd, hcolumns⟩ := Option.map_eq_some_iff.mp row.columns
  exact ⟨d, hd, by simpa only [Descriptor.primaryColumns, Prod.mk.injEq] using hcolumns⟩

/-- The state past a row of the table is the one its rule starts from (R137). -/
theorem State.start_eq_past {i : Instr} {d : Descriptor} (s : State) (hd : i.descriptor = some d) : s.start d = s.past i d.length := by
  rw [State.past, hd]
  rfl

/-- A row that CORE implements performs its rule in both profiles (R136). -/
theorem PrimaryRow.exec_eq {i : Instr} {bytes : List Byte} {rule : State → State} (row : PrimaryRow i bytes true rule) (s : State) :
    exec i s = .next (rule (s.past i bytes.length)) := by
  obtain ⟨d, hd, hlength, -, -, hcore⟩ := row.exists_descriptor
  rw [row.performs, perform_core rule s hd hcore, s.start_eq_past hd, hlength]

/-- In FULL every row performs its rule (R136). -/
theorem PrimaryRow.exec_full {i : Instr} {bytes : List Byte} {core : Bool} {rule : State → State} (row : PrimaryRow i bytes core rule)
    {s : State} (hfull : s.cfg.profile = .full) : exec i s = .next (rule (s.past i bytes.length)) := by
  obtain ⟨d, hd, hlength, -⟩ := row.exists_descriptor
  rw [row.performs, perform_full rule hd hfull, s.start_eq_past hd, hlength]

/-- A row that only FULL implements raises UnsupportedOpcode in CORE, with its opcode (R302). -/
theorem PrimaryRow.exec_core {i : Instr} {bytes : List Byte} {rule : State → State} (row : PrimaryRow i bytes false rule)
    {s : State} (hcore : s.cfg.profile = .core) : exec i s = .next (s.unsupported (bytes.take 1) false) := by
  obtain ⟨d, hd, -, hopcode, hprefixed, himpl⟩ := row.exists_descriptor
  rw [row.performs, perform_core_unsupported rule hd hcore himpl, hopcode, hprefixed]

/-- An operand's value does not depend on PC or `lastDecoded`. -/
@[simp] theorem State.past_get8 (s : State) (i : Instr) (len : Nat) (r : R8) : (s.past i len).get8 r = s.get8 r := by cases r <;> rfl

/-- The low nibble, as the flag rules take it (R151, R152). -/
theorem lowNibble_toNat (v : Byte) : (v &&& 0x0F).toNat = v.toNat % 16 := by
  rw [BitVec.toNat_and]
  exact Nat.and_two_pow_sub_one_eq_mod v.toNat 4

theorem flagsAre_packFlags (z n h c : Bool) : FlagsAre (packFlags z n h c) z n h c := packFlags_bits z n h c

theorem add8_res_toNat (a b : Byte) (cin : Bool) : (add8 a b cin).res.toNat = (a.toNat + b.toNat + cin.toNat) % 256 :=
  BitVec.toNat_ofNat _ 8

theorem sub8_res_toNat (a b : Byte) (cin : Bool) : ((sub8 a b cin).res.toNat : Int) = ((a.toNat : Int) - b.toNat - cin.toNat) % 256 := by
  have hcin : (BitVec.ofNat 8 cin.toNat).toNat = cin.toNat := by cases cin <;> rfl
  have hle : cin.toNat ≤ 1 := cin.toNat_le
  simp only [sub8, BitVec.toNat_sub, hcin]
  omega

/-- The flags that SUB, SBC and CP write are those of the subtraction (R152). -/
theorem subtractionFlags_sub8 (s : State) (v : Byte) (cin : Bool) :
    SubtractionFlags (packFlags (sub8 s.a v cin).z true (sub8 s.a v cin).h (sub8 s.a v cin).c) s v cin (sub8 s.a v cin).res := by
  refine ⟨sub8_res_toNat _ _ _, ?_⟩
  rw [lowNibble_toNat, lowNibble_toNat]
  exact flagsAre_packFlags _ _ _ _

/-! What each shared rule does, from the state past the instruction. -/

/-- ADD and ADC (R151): the sum and its flags. -/
theorem addsToA_of_exec {i : Instr} {s : State} {len : Nat} {v : Byte} {cin : Bool}
    (h : exec i s = .next ((s.past i len).addA v cin)) : AddsToA i s len v cin := by
  refine ⟨(add8 s.a v cin).res, _, h, add8_res_toNat _ _ _, ?_⟩
  rw [lowNibble_toNat, lowNibble_toNat]
  exact flagsAre_packFlags _ _ _ _

/-- SUB and SBC (R152): the difference and its flags. -/
theorem subtractsFromA_of_exec {i : Instr} {s : State} {len : Nat} {v : Byte} {cin : Bool}
    (h : exec i s = .next ((s.past i len).subA v cin)) : SubtractsFromA i s len v cin :=
  ⟨_, _, h, subtractionFlags_sub8 s v cin⟩

/-- CP (R152): the flags of the difference, which is not written. -/
theorem comparesWithA_of_exec {i : Instr} {s : State} {len : Nat} {v : Byte}
    (h : exec i s = .next ((s.past i len).cpA v)) : ComparesWithA i s len v :=
  ⟨_, _, h, subtractionFlags_sub8 s v false⟩

/-- AND, XOR and OR (R153). -/
theorem putsLogicalResult_of_exec {i : Instr} {s : State} {len : Nat} {op : LogicOp} {v : Byte}
    (h : exec i s = .next ((s.past i len).logicA op v)) : PutsLogicalResult i s len (logic8 op s.a v).res (decide (op = .and)) :=
  ⟨_, h, flagsAre_packFlags _ _ _ _⟩

/-! The forms of each family are rows of the table. -/

/-- Every form of a family, with opcode and operand, is a row that performs the family's rule on its operand. -/
def PerformOnOperand (forms : List (Byte × Instr × R8)) (core : Bool) (rule : R8 → State → State) : Prop :=
  ∀ form ∈ forms, PrimaryRow form.2.1 [form.1] core (rule form.2.2)

theorem addR_perform : PerformOnOperand Forms.addR true fun r t => t.addA (t.get8 r) false := by
  intro form hform
  fin_cases hform <;> exact ⟨rfl, fun _ => rfl, rfl⟩

theorem adcR_perform : PerformOnOperand Forms.adcR false fun r t => t.addA (t.get8 r) t.flagC := by
  intro form hform
  fin_cases hform <;> exact ⟨rfl, fun _ => rfl, rfl⟩

theorem subR_perform : PerformOnOperand Forms.subR true fun r t => t.subA (t.get8 r) false := by
  intro form hform
  fin_cases hform <;> exact ⟨rfl, fun _ => rfl, rfl⟩

theorem sbcR_perform : PerformOnOperand Forms.sbcR true fun r t => t.subA (t.get8 r) t.flagC := by
  intro form hform
  fin_cases hform <;> exact ⟨rfl, fun _ => rfl, rfl⟩

theorem cpR_perform : PerformOnOperand Forms.cpR true fun r t => t.cpA (t.get8 r) := by
  intro form hform
  fin_cases hform <;> exact ⟨rfl, fun _ => rfl, rfl⟩

theorem andR_perform : PerformOnOperand Forms.andR true fun r t => t.logicA .and (t.get8 r) := by
  intro form hform
  fin_cases hform <;> exact ⟨rfl, fun _ => rfl, rfl⟩

theorem xorR_perform : PerformOnOperand Forms.xorR true fun r t => t.logicA .xor (t.get8 r) := by
  intro form hform
  fin_cases hform <;> exact ⟨rfl, fun _ => rfl, rfl⟩

theorem orR_perform : PerformOnOperand Forms.orR true fun r t => t.logicA .or (t.get8 r) := by
  intro form hform
  fin_cases hform <;> exact ⟨rfl, fun _ => rfl, rfl⟩

theorem inc8_perform : PerformOnOperand Forms.inc8 true fun r t => t.inc8 r := by
  intro form hform
  fin_cases hform <;> exact ⟨rfl, fun _ => rfl, rfl⟩

theorem dec8_perform : PerformOnOperand Forms.dec8 true fun r t => t.dec8 r := by
  intro form hform
  fin_cases hform <;> exact ⟨rfl, fun _ => rfl, rfl⟩

/-- Settles O36: each form performs the addition on the value of its operand, with no carry in. -/
theorem addResult : Obligations.AddResult := by
  unfold Obligations.AddResult
  refine ⟨fun form hform s => ?_, fun n8 s => ?_⟩
  · have row := addR_perform form hform
    exact ⟨row.encode, addsToA_of_exec (State.past_get8 .. ▸ row.exec_eq s)⟩
  · have row : PrimaryRow (.addAN8 n8) [0xC6, n8] true fun t => t.addA n8 false := ⟨rfl, fun _ => rfl, rfl⟩
    exact ⟨row.encode, addsToA_of_exec (row.exec_eq s)⟩

/-- Settles O37: the carry added is the flag as it is before the instruction. -/
theorem adcResult : Obligations.AdcResult := by
  unfold Obligations.AdcResult
  refine ⟨fun form hform s => ?_, fun n8 s => ?_⟩
  · have row := adcR_perform form hform
    exact ⟨row.encode, fun hfull => addsToA_of_exec (State.past_get8 .. ▸ row.exec_full hfull), row.exec_core⟩
  · have row : PrimaryRow (.adcAN8 n8) [0xCE, n8] false fun t => t.addA n8 t.flagC := ⟨rfl, fun _ => rfl, rfl⟩
    exact ⟨row.encode, fun hfull => addsToA_of_exec (row.exec_full hfull), row.exec_core⟩

/-- Settles O38: each form performs the subtraction on the value of its operand, with no borrow in. -/
theorem subResult : Obligations.SubResult := by
  unfold Obligations.SubResult
  refine ⟨fun form hform s => ?_, fun n8 s => ?_⟩
  · have row := subR_perform form hform
    exact ⟨row.encode, subtractsFromA_of_exec (State.past_get8 .. ▸ row.exec_eq s)⟩
  · have row : PrimaryRow (.subAN8 n8) [0xD6, n8] true fun t => t.subA n8 false := ⟨rfl, fun _ => rfl, rfl⟩
    exact ⟨row.encode, subtractsFromA_of_exec (row.exec_eq s)⟩

/-- Settles O39: the borrow subtracted is the carry flag as it is before the instruction. -/
theorem sbcResult : Obligations.SbcResult := by
  unfold Obligations.SbcResult
  refine ⟨fun form hform s => ?_, fun n8 s => ?_⟩
  · have row := sbcR_perform form hform
    exact ⟨row.encode, subtractsFromA_of_exec (State.past_get8 .. ▸ row.exec_eq s)⟩
  · have row : PrimaryRow (.sbcAN8 n8) [0xDE, n8] true fun t => t.subA n8 t.flagC := ⟨rfl, fun _ => rfl, rfl⟩
    exact ⟨row.encode, subtractsFromA_of_exec (row.exec_eq s)⟩

/-- Settles O40: each form writes the flags of SUB and no register. -/
theorem cpResult : Obligations.CpResult := by
  unfold Obligations.CpResult
  refine ⟨fun form hform s => ?_, fun n8 s => ?_⟩
  · have row := cpR_perform form hform
    exact ⟨row.encode, comparesWithA_of_exec (State.past_get8 .. ▸ row.exec_eq s)⟩
  · have row : PrimaryRow (.cpAN8 n8) [0xFE, n8] true fun t => t.cpA n8 := ⟨rfl, fun _ => rfl, rfl⟩
    exact ⟨row.encode, comparesWithA_of_exec (row.exec_eq s)⟩

/-- Settles O41: one rule for the three operations, which sets H for AND only. -/
theorem logicResult : Obligations.LogicResult := by
  unfold Obligations.LogicResult
  refine ⟨fun form hform s => ?_, fun form hform s => ?_, fun form hform s => ?_, fun n8 s => ⟨?_, ?_, ?_⟩⟩
  · have row := andR_perform form hform
    exact ⟨row.encode, putsLogicalResult_of_exec (op := .and) (State.past_get8 .. ▸ row.exec_eq s)⟩
  · have row := xorR_perform form hform
    exact ⟨row.encode, putsLogicalResult_of_exec (op := .xor) (State.past_get8 .. ▸ row.exec_eq s)⟩
  · have row := orR_perform form hform
    exact ⟨row.encode, putsLogicalResult_of_exec (op := .or) (State.past_get8 .. ▸ row.exec_eq s)⟩
  · have row : PrimaryRow (.andAN8 n8) [0xE6, n8] true fun t => t.logicA .and n8 := ⟨rfl, fun _ => rfl, rfl⟩
    exact ⟨row.encode, putsLogicalResult_of_exec (row.exec_eq s)⟩
  · have row : PrimaryRow (.xorAN8 n8) [0xEE, n8] true fun t => t.logicA .xor n8 := ⟨rfl, fun _ => rfl, rfl⟩
    exact ⟨row.encode, putsLogicalResult_of_exec (row.exec_eq s)⟩
  · have row : PrimaryRow (.orAN8 n8) [0xF6, n8] true fun t => t.logicA .or n8 := ⟨rfl, fun _ => rfl, rfl⟩
    exact ⟨row.encode, putsLogicalResult_of_exec (row.exec_eq s)⟩

/-! INC, DEC, the complements and DAA. -/

@[simp] theorem State.put8_pc (s : State) (r : R8) (v : Byte) : (s.put8 r v).pc = s.pc := congrArg Control.pc (s.put8_control r v)

/-- Writing the operand and then Z, N and H from the state past a row: the store, and C, are those of the state before the row
(R179 to R182). -/
theorem PrimaryRow.put8_setFlags {i : Instr} {bytes : List Byte} {core : Bool} {rule : State → State} (row : PrimaryRow i bytes core rule)
    (s : State) (r : R8) (v : Byte) (z n h : Bool) :
    ((s.past i bytes.length).put8 r v).setFlags (some z) (some n) (some h) none =
      { s.put8 r v with
        f := packFlags z n h (s.f.getLsbD 4), pc := s.pc + BitVec.ofNat 16 bytes.length, lastDecoded := i.descriptor } := by
  obtain ⟨d, hd, hlength, -⟩ := row.exists_descriptor
  rw [← hlength, ← s.start_eq_past hd, State.put8_start, hd]
  simp only [State.setFlags, State.flagC, State.start, Option.getD, State.put8_f, State.put8_pc]

/-- The half carry of an increment (R179): out of a low nibble of ones. -/
theorem add8_one_h (v : Byte) : (add8 v 1 false).h = decide (v &&& 0x0F = 0x0F) := by
  revert v; decide

theorem sub8_one_res_toNat (v : Byte) : (sub8 v 1 false).res.toNat = (v.toNat + 255) % 256 := by
  have h : ((sub8 v 1 false).res.toNat : Int) = ((v.toNat : Int) - 1 - 0) % 256 := sub8_res_toNat v 1 false
  omega

/-- The half carry of a decrement (R181): into a low nibble of zeros. -/
theorem sub8_one_h (v : Byte) : (sub8 v 1 false).h = decide (v &&& 0x0F = 0x00) := by
  revert v; decide

/-- Settles O42: the result and the flags come from the operand's value before the store. -/
theorem incDec8Result : Obligations.IncDec8Result := by
  unfold Obligations.IncDec8Result
  refine ⟨fun form hform s => ?_, fun form hform s => ?_⟩
  · have row := inc8_perform form hform
    have hexec : exec form.2.1 s = .next ((s.past form.2.1 [form.1].length).inc8 form.2.2) := row.exec_eq s
    rw [State.inc8, State.past_get8, row.put8_setFlags] at hexec
    exact ⟨row.encode, _, _, hexec, add8_res_toNat _ 1 false, add8_one_h _ ▸ flagsAre_packFlags _ _ _ _⟩
  · have row := dec8_perform form hform
    have hexec : exec form.2.1 s = .next ((s.past form.2.1 [form.1].length).dec8 form.2.2) := row.exec_eq s
    rw [State.dec8, State.past_get8, row.put8_setFlags] at hexec
    exact ⟨row.encode, _, _, hexec, sub8_one_res_toNat _, sub8_one_h _ ▸ flagsAre_packFlags _ _ _ _⟩

/-- Settles O43: CPL and CCF are rows of both profiles, SCF of FULL only. -/
theorem complementAndCarryFlags : Obligations.ComplementAndCarryFlags := by
  unfold Obligations.ComplementAndCarryFlags
  intro s
  have cpl : PrimaryRow .cpl [0x2F] true State.complementA := ⟨rfl, fun _ => rfl, rfl⟩
  have ccf : PrimaryRow .ccf [0x3F] true State.complementCarry := ⟨rfl, fun _ => rfl, rfl⟩
  have scf : PrimaryRow .scf [0x37] false State.setCarry := ⟨rfl, fun _ => rfl, rfl⟩
  exact ⟨⟨cpl.encode, _, _, cpl.exec_eq s, BitVec.xor_allOnes, flagsAre_packFlags _ _ _ _⟩,
    ⟨ccf.encode, _, ccf.exec_eq s, flagsAre_packFlags _ _ _ _⟩,
    scf.encode, fun hfull => ⟨_, scf.exec_full hfull, flagsAre_packFlags _ _ _ _⟩, scf.exec_core⟩

/-- The adjustment of DAA, whose two parts share no bit (R186). -/
theorem adjustment_toNat (high low : Bool) :
    ((if high then 0x60 else 0) ||| (if low then 0x06 else 0) : Byte).toNat = (if high then 0x60 else 0) + (if low then 0x06 else 0) := by
  revert high low; decide

/-- The adjusted byte of DAA after an addition (R186). -/
theorem daaAdd_toNat (a : Byte) (h c : Bool) : (daaAdd a h c).1.toNat =
    (a.toNat + (if c || decide (a.toNat > 0x99) then 0x60 else 0) + (if h = true ∨ a.toNat % 16 > 0x09 then 0x06 else 0)) % 256 := by
  rw [daaAdd, BitVec.toNat_add, adjustment_toNat, Nat.add_assoc]
  simp only [Bool.or_eq_true, decide_eq_true_eq]

/-- The adjusted byte of DAA after a subtraction (R186). -/
theorem daaSub_toNat (a : Byte) (h c : Bool) : ((daaSub a h c).1.toNat : Int) =
    ((a.toNat : Int) - (if c then 0x60 else 0) - (if h then 0x06 else 0)) % 256 := by
  rw [daaSub, BitVec.toNat_sub, adjustment_toNat]
  cases c <;> cases h <;> simp only [if_true, if_false, Bool.false_eq_true] <;> omega

/-- What DAA writes: the adjusted byte, Z by it, N as it was, H cleared, and the carry of the adjustment (R186). -/
theorem State.decimalAdjust_eq {s : State} {n : Bool} (hn : s.flagN = n) : s.decimalAdjust =
    { s with
      a := (daa8 s.a n s.flagH s.flagC).1
      f := packFlags (decide ((daa8 s.a n s.flagH s.flagC).1 = 0)) n false (daa8 s.a n s.flagH s.flagC).2 } := by
  subst hn
  rfl

/-- Settles O44: N, which DAA leaves alone, says which of the two adjustments it makes. -/
theorem decimalAdjustResult : Obligations.DecimalAdjustResult := by
  unfold Obligations.DecimalAdjustResult
  have row : PrimaryRow .daa [0x27] false State.decimalAdjust := ⟨rfl, fun _ => rfl, rfl⟩
  refine ⟨row.encode, fun s => row.exec_core, fun s hfull => ?_⟩
  have hexec : exec .daa s = .next (s.past .daa 1).decimalAdjust := row.exec_full hfull
  cases hn : s.f.getLsbD 6 with
  | false =>
    rw [State.decimalAdjust_eq (s := s.past .daa 1) hn] at hexec
    refine ⟨_, _, hexec, fun _ => ⟨_, rfl, ?_, flagsAre_packFlags _ _ _ _⟩, nofun⟩
    rw [lowNibble_toNat]
    exact daaAdd_toNat _ _ _
  | true =>
    rw [State.decimalAdjust_eq (s := s.past .daa 1) hn] at hexec
    exact ⟨_, _, hexec, nofun, fun _ => ⟨daaSub_toNat _ _ _, flagsAre_packFlags _ _ _ _⟩⟩

end Sys2Proof.Machine

/-! 16-bit arithmetic (R190 to R194, R252): what each shared rule writes, then the forms that perform it. -/

namespace Sys2Proof.Machine

/-- A 16-bit operand's value does not depend on PC or `lastDecoded`. -/
@[simp] theorem State.past_get16 (s : State) (i : Instr) (len : Nat) (r : R16) : (s.past i len).get16 r = s.get16 r := by cases r <;> rfl

/-- The low `k` bits of a value, as the carry rules take them (R190, R191). -/
theorem toNat_and_ofNat_two_pow_sub_one {w : Nat} (v : BitVec w) {k : Nat} (hk : k ≤ w) :
    (v &&& BitVec.ofNat w (2 ^ k - 1)).toNat = v.toNat % 2 ^ k := by
  have hlt : 2 ^ k - 1 < 2 ^ w := Nat.sub_one_lt_of_le k.two_pow_pos (Nat.pow_le_pow_right two_pos hk)
  rw [BitVec.toNat_and, BitVec.toNat_ofNat, Nat.mod_eq_of_lt hlt, Nat.and_two_pow_sub_one_eq_mod]

theorem add16_res_toNat (a b : Word) : (add16 a b).res.toNat = (a.toNat + b.toNat) % 65536 := BitVec.toNat_add a b

/-- The half carry of the 16-bit add, out of bit 11 (R190). -/
theorem add16_h (a b : Word) : (add16 a b).h = decide ((a &&& 0x0FFF).toNat + (b &&& 0x0FFF).toNat > 0x0FFF) := by
  have low (v : Word) : (v &&& 0x0FFF).toNat = v.toNat % 0x1000 := toNat_and_ofNat_two_pow_sub_one v (k := 12) (by decide)
  rw [low, low]
  rfl

/-- The sum of SP and a signed offset (R191). -/
theorem addSpE8_res_toNat (sp : Word) (e8 : Byte) : ((addSpE8 sp e8).res.toNat : Int) = ((sp.toNat : Int) + e8.toInt) % 65536 := by
  have hint : (addSpE8 sp e8).res = BitVec.ofInt 16 (sp.toNat + e8.toInt) := by
    rw [BitVec.ofInt_add]
    simp [addSpE8, sext16, BitVec.signExtend]
  rw [hint, BitVec.toNat_ofInt]
  omega

/-- The half carry of SP plus an offset, out of bit 3 of the unsigned low bytes (R191). -/
theorem addSpE8_h (sp : Word) (e8 : Byte) :
    (addSpE8 sp e8).h = decide ((sp &&& 0x000F).toNat + (e8 &&& 0x0F).toNat > 0x0F) := by
  have low : (sp &&& 0x000F).toNat = sp.toNat % 16 := toNat_and_ofNat_two_pow_sub_one sp (k := 4) (by decide)
  rw [low, lowNibble_toNat]
  rfl

/-- The carry of SP plus an offset, out of bit 7 of the unsigned low bytes (R191). -/
theorem addSpE8_c (sp : Word) (e8 : Byte) : (addSpE8 sp e8).c = decide ((sp &&& 0x00FF).toNat + e8.toNat > 0xFF) := by
  have low : (sp &&& 0x00FF).toNat = sp.toNat % 256 := toNat_and_ofNat_two_pow_sub_one sp (k := 8) (by decide)
  rw [low]
  rfl

/-- Every form of a family over the 16-bit registers is a row of both profiles that performs the family's rule on its register. -/
def PerformOnRegister16 (forms : List (Byte × Instr × R16)) (rule : R16 → State → State) : Prop :=
  ∀ form ∈ forms, PrimaryRow form.2.1 [form.1] true (rule form.2.2)

theorem addHl_perform : PerformOnRegister16 Forms.addHl fun r t => t.addHl r := by
  intro form hform
  fin_cases hform <;> exact ⟨rfl, fun _ => rfl, rfl⟩

theorem inc16_perform : PerformOnRegister16 Forms.inc16 fun r t => t.inc16 r := by
  intro form hform
  fin_cases hform <;> exact ⟨rfl, fun _ => rfl, rfl⟩

theorem dec16_perform : PerformOnRegister16 Forms.dec16 fun r t => t.dec16 r := by
  intro form hform
  fin_cases hform <;> exact ⟨rfl, fun _ => rfl, rfl⟩

/-- Settles O45: each form adds its register to HL as they are before the instruction, and keeps Z. -/
theorem addHlResult : Obligations.AddHlResult := by
  unfold Obligations.AddHlResult
  intro form hform s
  have row := addHl_perform form hform
  have hexec : exec form.2.1 s = .next ((s.past form.2.1 1).addHl form.2.2) := row.exec_eq s
  rw [State.addHl, State.past_get16] at hexec
  exact ⟨row.encode, _, _, hexec, add16_res_toNat _ _, add16_h _ _ ▸ flagsAre_packFlags _ _ _ _⟩

/-- Settles O46: both instructions take the sum and the flags from SP and the offset; they differ in the register written. -/
theorem spPlusOffset : Obligations.SpPlusOffset := by
  unfold Obligations.SpPlusOffset
  intro e8 s
  have toSp : PrimaryRow (.addSpE8 e8) [0xE8, e8] true fun t => t.addToSp e8 := ⟨rfl, fun _ => rfl, rfl⟩
  have toHl : PrimaryRow (.ldHlSpE8 e8) [0xF8, e8] true fun t => t.ldHlFromSp e8 := ⟨rfl, fun _ => rfl, rfl⟩
  rw [← addSpE8_h, ← addSpE8_c]
  exact ⟨_, _, addSpE8_res_toNat _ _, flagsAre_packFlags _ _ _ _, toSp.encode, toSp.exec_eq s, toHl.encode, toHl.exec_eq s⟩

/-- Settles O47: each form writes its register's value before the instruction, plus or minus 1. -/
theorem incDec16Result : Obligations.IncDec16Result := by
  unfold Obligations.IncDec16Result
  refine ⟨fun form hform s => ?_, fun form hform s => ?_⟩
  · have row := inc16_perform form hform
    have hexec : exec form.2.1 s = .next ((s.past form.2.1 1).inc16 form.2.2) := row.exec_eq s
    rw [State.inc16, State.past_get16] at hexec
    exact ⟨row.encode, _, BitVec.toNat_add _ 1, hexec, State.put16_get16 _ _ _⟩
  · have row := dec16_perform form hform
    have hexec : exec form.2.1 s = .next ((s.past form.2.1 1).dec16 form.2.2) := row.exec_eq s
    rw [State.dec16, State.past_get16] at hexec
    refine ⟨row.encode, _, ?_, hexec, State.put16_get16 _ _ _⟩
    rw [BitVec.toNat_sub]
    exact congrArg (· % 65536) (Nat.add_comm _ _)

end Sys2Proof.Machine

/-! Control transfer (R200 to R211): what each shared rule writes, then the forms that perform it. -/

namespace Sys2Proof.Machine

/-- The model reads a condition off F as R200 names its bits. -/
theorem State.cond_eq_holds (s : State) (cc : Cond) : s.cond cc = cc.holds s.f := by
  rw [State.cond_eq]
  cases cc <;> simp [Cond.holds]

/-- A conditional rule, with the condition read off F (R200). -/
theorem State.onCond_eq (s : State) (cc : Cond) (rule : State → State) :
    s.onCond cc rule = if cc.holds s.f then rule s else s := by
  rw [State.onCond, s.cond_eq_holds]

/-- A conditional jump writes PC only (R202). -/
theorem State.onCond_jump (s : State) (cc : Cond) (target : Word) :
    (s.onCond cc fun u => u.jump target) = { s with pc := if cc.holds s.f then target else s.pc } := by
  rw [State.onCond_eq]
  split <;> rfl

/-- A conditional relative jump is the conditional jump to the address it computes (R204, R205). -/
theorem State.onCond_jumpRel (s : State) (cc : Cond) (e8 : Byte) :
    (s.onCond cc fun u => u.jumpRel e8) = { s with pc := if cc.holds s.f then s.pc + sext16 e8 else s.pc } :=
  s.onCond_jump cc _

/-- A word pushed, with its high byte's address counted down from the old SP (R220). -/
theorem State.push16_eq_pushed (s : State) (v : Word) : s.push16 v = s.pushed v := by
  rw [State.push16, State.write16, State.pushed, sub_two_add_one]

/-- CALL and RST push PC, then write it (R206, R211). -/
theorem State.call_eq (s : State) (target : Word) : s.call target = { s.pushed s.pc with pc := target } := by
  rw [State.call, s.push16_eq_pushed]
  rfl

/-- The target of a relative jump, from the address of its two bytes (R204). -/
theorem add_two_add_sext16_toNat (pc : Word) (e8 : Byte) :
    ((pc + 2 + sext16 e8).toNat : Int) = ((pc.toNat : Int) + 2 + e8.toInt) % 65536 := by
  have hsum : ((pc + 2 + sext16 e8).toNat : Int) = (((pc + 2).toNat : Int) + e8.toInt) % 65536 := addSpE8_res_toNat (pc + 2) e8
  have hnext : (pc + 2).toNat = (pc.toNat + 2) % 65536 := BitVec.toNat_add pc 2
  omega

/-- Every form of a conditional family, with the operand bytes after its opcode, is a row of both profiles that performs the family's
rule under its condition. -/
def PerformOnCondition (forms : List (Byte × Instr × Cond)) (operand : List Byte) (rule : State → State) : Prop :=
  ∀ form ∈ forms, PrimaryRow form.2.1 (form.1 :: operand) true fun t => t.onCond form.2.2 rule

theorem jpCc_perform (a16 : Word) : PerformOnCondition (Forms.jpCc a16) [loByte a16, hiByte a16] fun u => u.jump a16 := by
  intro form hform
  fin_cases hform <;> exact ⟨rfl, fun _ => rfl, rfl⟩

theorem jrCc_perform (e8 : Byte) : PerformOnCondition (Forms.jrCc e8) [e8] fun u => u.jumpRel e8 := by
  intro form hform
  fin_cases hform <;> exact ⟨rfl, fun _ => rfl, rfl⟩

theorem callCc_perform (a16 : Word) : PerformOnCondition (Forms.callCc a16) [loByte a16, hiByte a16] fun u => u.call a16 := by
  intro form hform
  fin_cases hform <;> exact ⟨rfl, fun _ => rfl, rfl⟩

theorem retCc_perform : PerformOnCondition Forms.retCc [] State.ret := by
  intro form hform
  fin_cases hform <;> exact ⟨rfl, fun _ => rfl, rfl⟩

/-- Every RST is a row of both profiles that calls its own target (R211). -/
theorem rst_perform : ∀ form ∈ Forms.rst, PrimaryRow form.2.1 [form.1] true fun t => t.call form.2.2 := by
  intro form hform
  fin_cases hform <;> exact ⟨rfl, fun _ => rfl, rfl⟩

/-- Settles O48: each jump writes PC only; a condition chooses between the target and the address after the instruction. -/
theorem jumps : Obligations.Jumps := by
  unfold Obligations.Jumps
  refine ⟨fun a16 s => ?_, fun a16 form hform s => ?_, fun s => ?_, fun e8 s => ?_⟩
  · have row : PrimaryRow (.jpA16 a16) [0xC3, loByte a16, hiByte a16] true fun t => t.jump a16 := ⟨rfl, fun _ => rfl, rfl⟩
    exact ⟨row.encode, row.exec_eq s⟩
  · have row := jpCc_perform a16 form hform
    have hexec := row.exec_eq s
    rw [State.onCond_jump] at hexec
    exact ⟨row.encode, hexec⟩
  · have row : PrimaryRow .jpHl [0xE9] true fun t => t.jump t.hl := ⟨rfl, fun _ => rfl, rfl⟩
    exact ⟨row.encode, row.exec_eq s⟩
  · have jr : PrimaryRow (.jrE8 e8) [0x18, e8] true fun t => t.jumpRel e8 := ⟨rfl, fun _ => rfl, rfl⟩
    refine ⟨s.pc + 2 + sext16 e8, add_two_add_sext16_toNat s.pc e8, jr.encode, jr.exec_eq s, fun form hform => ?_⟩
    have row := jrCc_perform e8 form hform
    have hexec := row.exec_eq s
    rw [State.onCond_jumpRel] at hexec
    exact ⟨row.encode, hexec⟩

/-- Settles O49: each form pushes the address after the instruction, which PC holds when its rule starts, and goes to its target. -/
theorem callsAndRestarts : Obligations.CallsAndRestarts := by
  unfold Obligations.CallsAndRestarts
  refine ⟨fun a16 s => ?_, fun a16 form hform s => ?_, fun form hform s => ?_⟩
  · have row : PrimaryRow (.callA16 a16) [0xCD, loByte a16, hiByte a16] true fun t => t.call a16 := ⟨rfl, fun _ => rfl, rfl⟩
    have hexec := row.exec_eq s
    rw [State.call_eq] at hexec
    exact ⟨row.encode, hexec⟩
  · have row := callCc_perform a16 form hform
    have hexec := row.exec_eq s
    rw [State.onCond_eq, State.call_eq] at hexec
    exact ⟨row.encode, hexec⟩
  · have row := rst_perform form hform
    have hexec := row.exec_eq s
    rw [State.call_eq] at hexec
    exact ⟨row.encode, hexec⟩

/-- Settles O50: each form takes the word at SP and drops it; RETI sets IME besides. -/
theorem returns : Obligations.Returns := by
  unfold Obligations.Returns
  intro s
  have ret : PrimaryRow .ret [0xC9] true State.ret := ⟨rfl, fun _ => rfl, rfl⟩
  have reti : PrimaryRow .reti [0xD9] true State.retEnable := ⟨rfl, fun _ => rfl, rfl⟩
  refine ⟨⟨ret.encode, ret.exec_eq s⟩, fun form hform => ?_, reti.encode, reti.exec_eq s⟩
  have row := retCc_perform form hform
  have hexec := row.exec_eq s
  rw [State.onCond_eq] at hexec
  exact ⟨row.encode, hexec⟩

end Sys2Proof.Machine

/-! PUSH and POP (R220 to R224): what each shared rule writes, then the forms that perform it. -/

namespace Sys2Proof.Machine

/-- A pair written a byte at a time; F takes its byte without the low nibble (R22, R25). -/
def State.putPairBytes (s : State) (q : Pair) (lo hi : Byte) : State :=
  match q with
  | .bc => { s with c := lo, b := hi }
  | .de => { s with e := lo, d := hi }
  | .hl => { s with l := lo, h := hi }
  | .af => { s with f := lo &&& 0xF0, a := hi }

/-- A pair takes a word as that word's two bytes (R24, R25). -/
theorem State.putPair_eq_putPairBytes (s : State) (q : Pair) (v : Word) : s.putPair q v = s.putPairBytes q (loByte v) (hiByte v) := by
  cases q <;> rfl

/-- POP takes the low byte from SP and the high byte from the address above it (R221, R223, R224). -/
theorem State.popPair_eq_putPairBytes (s : State) (q : Pair) :
    s.popPair q = s.drop16.putPairBytes q (s.read8 s.sp) (s.read8 (s.sp + 1)) := by
  rw [State.popPair, State.putPair_eq_putPairBytes, State.top16, State.read16, loByte_wordOf, hiByte_wordOf]

/-- A pair's word does not depend on PC or `lastDecoded`. -/
@[simp] theorem State.past_getPair (s : State) (i : Instr) (len : Nat) (q : Pair) : (s.past i len).getPair q = s.getPair q := by
  cases q <;> rfl

/-- A row whose rule pushes a pair pushes the word that the pair held before the instruction (R220, R222). -/
theorem PrimaryRow.push {i : Instr} {op : Byte} {q : Pair} (row : PrimaryRow i [op] true fun t => t.pushPair q) (s : State) :
    Sys2Proof.encode i = [op] ∧ exec i s = .next ((s.past i 1).pushed (s.getPair q)) := by
  have hexec := row.exec_eq s
  rw [State.pushPair, State.push16_eq_pushed, State.past_getPair] at hexec
  exact ⟨row.encode, hexec⟩

/-- A row whose rule pops a pair writes the two bytes at SP, as memory held them before the instruction, to it (R221, R223, R224). -/
theorem PrimaryRow.pop {i : Instr} {op : Byte} {q : Pair} (row : PrimaryRow i [op] true fun t => t.popPair q) (s : State) :
    Sys2Proof.encode i = [op] ∧ exec i s = .next ((s.past i 1).drop16.putPairBytes q (s.read8 s.sp) (s.read8 (s.sp + 1))) := by
  have hexec := row.exec_eq s
  rw [State.popPair_eq_putPairBytes] at hexec
  exact ⟨row.encode, hexec⟩

/-- Settles O51: each form is a row of both profiles that pushes or pops its own pair. -/
theorem pushAndPop : Obligations.PushAndPop := by
  unfold Obligations.PushAndPop
  intro s
  have pushBc : PrimaryRow .pushBc [0xC5] true fun t => t.pushPair .bc := ⟨rfl, fun _ => rfl, rfl⟩
  have pushDe : PrimaryRow .pushDe [0xD5] true fun t => t.pushPair .de := ⟨rfl, fun _ => rfl, rfl⟩
  have pushHl : PrimaryRow .pushHl [0xE5] true fun t => t.pushPair .hl := ⟨rfl, fun _ => rfl, rfl⟩
  have pushAf : PrimaryRow .pushAf [0xF5] true fun t => t.pushPair .af := ⟨rfl, fun _ => rfl, rfl⟩
  have popBc : PrimaryRow .popBc [0xC1] true fun t => t.popPair .bc := ⟨rfl, fun _ => rfl, rfl⟩
  have popDe : PrimaryRow .popDe [0xD1] true fun t => t.popPair .de := ⟨rfl, fun _ => rfl, rfl⟩
  have popHl : PrimaryRow .popHl [0xE1] true fun t => t.popPair .hl := ⟨rfl, fun _ => rfl, rfl⟩
  have popAf : PrimaryRow .popAf [0xF1] true fun t => t.popPair .af := ⟨rfl, fun _ => rfl, rfl⟩
  exact ⟨pushBc.push s, pushDe.push s, pushHl.push s, pushAf.push s, popBc.pop s, popDe.pop s, popHl.pop s, popAf.pop s⟩

end Sys2Proof.Machine

/-! Loads and stores (R230 to R251): what each shared rule does from the state past the instruction, then the forms that perform it. -/

namespace Sys2Proof.Machine

/-- A register operand read after a write to a register operand. -/
theorem State.get8_put8 (s : State) {r r' : R8} (v : Byte) (h : r ≠ .atHl) (h' : r' ≠ .atHl) :
    (s.put8 r v).get8 r' = if r' = r then v else s.get8 r' := by
  by_cases hr : r' = r
  · rw [if_pos hr, hr, s.put8_get8 v h]
  · rw [if_neg hr, s.put8_get8_ne v h h' hr]

/-- The high page as the sum of its base and an 8-bit offset (R130). -/
theorem highPage_eq_ofNat (a8 : Byte) : highPage a8 = BitVec.ofNat 16 (0xFF00 + a8.toNat) := by
  revert a8; decide

/-- A store does not reach HL. -/
@[simp] theorem State.write8_hl (s : State) (p : Word) (v : Byte) : (s.write8 p v).hl = s.hl := by
  simp only [State.hl, State.write8_h, State.write8_l]

/-- A store through (HL+) counts up from the HL that it stored at (R241). -/
theorem State.storeA_atHlInc (s : State) : s.storeA .atHlInc = (s.write8 s.hl s.a).setHl (s.hl + 1) := by
  rw [State.storeA, State.afterAccess, State.write8_hl, State.address]

/-- A store through (HL-) counts down from the HL that it stored at (R242). -/
theorem State.storeA_atHlDec (s : State) : s.storeA .atHlDec = (s.write8 s.hl s.a).setHl (s.hl - 1) := by
  rw [State.storeA, State.afterAccess, State.write8_hl, State.address]

/-- Every LD between two 8-bit operands is a row of both profiles that performs the load on its own operands (R230, R232, R233). -/
theorem ld8_perform : ∀ form ∈ Forms.ld8, PrimaryRow form.2.1 [form.1] true fun t => t.ld8 form.2.2.1 form.2.2.2 := by
  intro form hform
  fin_cases hform <;> exact ⟨rfl, fun _ => rfl, rfl⟩

/-- Every LD of an 8-bit immediate is a row of both profiles that loads its own operand (R231, R234). -/
theorem ld8Imm_perform (n8 : Byte) :
    ∀ form ∈ Forms.ld8Imm n8, PrimaryRow form.2.1 [form.1, n8] true fun t => t.ld8Imm form.2.2 n8 := by
  intro form hform
  fin_cases hform <;> exact ⟨rfl, fun _ => rfl, rfl⟩

/-- Every LD of a 16-bit immediate is a row of both profiles that loads its own register (R243). -/
theorem ld16_perform (n16 : Word) :
    ∀ form ∈ Forms.ld16 n16, PrimaryRow form.2.1 [form.1, loByte n16, hiByte n16] true fun t => t.ld16Imm form.2.2 n16 := by
  intro form hform
  fin_cases hform <;> exact ⟨rfl, fun _ => rfl, rfl⟩

/-- Settles O53: each form writes its source's value, as it is before the instruction, to its destination. -/
theorem load8Result : Obligations.Load8Result := by
  unfold Obligations.Load8Result
  refine ⟨fun form hform s => ?_, fun n8 form hform s => ?_, fun s r r' v hr hr' => ⟨s.get8_put8 v hr hr', rfl, rfl⟩⟩
  · have row := ld8_perform form hform
    have hexec := row.exec_eq s
    rw [State.ld8, State.past_get8] at hexec
    exact ⟨row.encode, hexec⟩
  · have row := ld8Imm_perform n8 form hform
    exact ⟨row.encode, row.exec_eq s⟩

/-- Settles O54: each form is a row of both profiles that loads A from its own memory operand. -/
theorem loadAResult : Obligations.LoadAResult := by
  unfold Obligations.LoadAResult
  intro a8 a16 s
  have fromBc : PrimaryRow .ldAAtBc [0x0A] true fun t => t.loadA .atBc := ⟨rfl, fun _ => rfl, rfl⟩
  have fromDe : PrimaryRow .ldAAtDe [0x1A] true fun t => t.loadA .atDe := ⟨rfl, fun _ => rfl, rfl⟩
  have fromHlInc : PrimaryRow .ldAAtHlInc [0x2A] true fun t => t.loadA .atHlInc := ⟨rfl, fun _ => rfl, rfl⟩
  have fromHlDec : PrimaryRow .ldAAtHlDec [0x3A] true fun t => t.loadA .atHlDec := ⟨rfl, fun _ => rfl, rfl⟩
  have fromA16 : PrimaryRow (.ldAAtA16 a16) [0xFA, loByte a16, hiByte a16] true fun t => t.loadA (.atA16 a16) :=
    ⟨rfl, fun _ => rfl, rfl⟩
  have fromA8 : PrimaryRow (.ldhAAtA8 a8) [0xF0, a8] true fun t => t.loadA (.atA8 a8) := ⟨rfl, fun _ => rfl, rfl⟩
  have fromC : PrimaryRow .ldAAtC [0xF2] true fun t => t.loadA .atC := ⟨rfl, fun _ => rfl, rfl⟩
  rw [← highPage_eq_ofNat, ← highPage_eq_ofNat]
  exact ⟨⟨fromBc.encode, fromBc.exec_eq s⟩, ⟨fromDe.encode, fromDe.exec_eq s⟩, ⟨fromHlInc.encode, fromHlInc.exec_eq s⟩,
    ⟨fromHlDec.encode, fromHlDec.exec_eq s⟩, ⟨fromA16.encode, fromA16.exec_eq s⟩, ⟨fromA8.encode, fromA8.exec_eq s⟩,
    fromC.encode, fromC.exec_eq s⟩

/-- Settles O55: each form is a row of both profiles that stores A to its own memory operand; HL moves from its value before the
store. -/
theorem storeAResult : Obligations.StoreAResult := by
  unfold Obligations.StoreAResult
  intro a8 a16 s
  have toBc : PrimaryRow .ldAtBcA [0x02] true fun t => t.storeA .atBc := ⟨rfl, fun _ => rfl, rfl⟩
  have toDe : PrimaryRow .ldAtDeA [0x12] true fun t => t.storeA .atDe := ⟨rfl, fun _ => rfl, rfl⟩
  have toHlInc : PrimaryRow .ldAtHlIncA [0x22] true fun t => t.storeA .atHlInc := ⟨rfl, fun _ => rfl, rfl⟩
  have toHlDec : PrimaryRow .ldAtHlDecA [0x32] true fun t => t.storeA .atHlDec := ⟨rfl, fun _ => rfl, rfl⟩
  have toA16 : PrimaryRow (.ldAtA16A a16) [0xEA, loByte a16, hiByte a16] true fun t => t.storeA (.atA16 a16) :=
    ⟨rfl, fun _ => rfl, rfl⟩
  have toA8 : PrimaryRow (.ldhAtA8A a8) [0xE0, a8] true fun t => t.storeA (.atA8 a8) := ⟨rfl, fun _ => rfl, rfl⟩
  have toC : PrimaryRow .ldAtCA [0xE2] true fun t => t.storeA .atC := ⟨rfl, fun _ => rfl, rfl⟩
  have hinc := toHlInc.exec_eq s
  rw [State.storeA_atHlInc] at hinc
  have hdec := toHlDec.exec_eq s
  rw [State.storeA_atHlDec] at hdec
  rw [← highPage_eq_ofNat, ← highPage_eq_ofNat]
  exact ⟨⟨toBc.encode, toBc.exec_eq s⟩, ⟨toDe.encode, toDe.exec_eq s⟩, ⟨toHlInc.encode, hinc⟩, ⟨toHlDec.encode, hdec⟩,
    ⟨toA16.encode, toA16.exec_eq s⟩, ⟨toA8.encode, toA8.exec_eq s⟩, toC.encode, toC.exec_eq s⟩

/-- Settles O56: the register takes the immediate; SP is stored low byte first; SP takes HL. -/
theorem load16Result : Obligations.Load16Result := by
  unfold Obligations.Load16Result
  refine ⟨fun n16 form hform s => ?_, fun a16 s => ?_, fun s => ?_⟩
  · have row := ld16_perform n16 form hform
    exact ⟨row.encode, row.exec_eq s, State.put16_get16 _ _ _⟩
  · have row : PrimaryRow (.ldAtA16Sp a16) [0x08, loByte a16, hiByte a16] true fun t => t.storeSp a16 := ⟨rfl, fun _ => rfl, rfl⟩
    exact ⟨row.encode, row.exec_eq s⟩
  · have row : PrimaryRow .ldSpHl [0xF9] true State.ldSpFromHl := ⟨rfl, fun _ => rfl, rfl⟩
    exact ⟨row.encode, row.exec_eq s⟩

end Sys2Proof.Machine

/-! The fault of an illegal opcode (R267, R301, R304). -/

namespace Sys2Proof.Machine

/-- Each of the eleven bytes decodes to its illegal opcode, whatever follows it (R134). -/
theorem decodeBytes_of_mem_illegalOpcodes {op : Byte} (h : op ∈ illegalOpcodes) (b1 b2 : Byte) :
    decodeBytes op b1 b2 = .illegal op := by
  have hwf : (Instr.illegal op).wf = true := List.contains_iff_mem.mpr h
  obtain ⟨_, _, hencode, -, hdecode⟩ := readsBack_of_wf hwf
  cases hencode
  exact hdecode [b1, b2]

/-- An illegal opcode raises IllegalOpcode with its own byte, whatever the profile (R267, R301). -/
theorem exec_illegal (op : Byte) (s : State) : exec (.illegal op) s = .next (s.raise (.illegalOpcode ⟨s.pc, [op], false⟩)) :=
  (perform_illegal (i := .illegal op) (fun t => t) rfl :)

/-- Settles O9: an illegal opcode raises its fault, which writes the fault field only; in a ready state with such a byte at PC, it is
the instruction that the step fetches. -/
theorem illegalOpcodeFaultEntry : Obligations.IllegalOpcodeFaultEntry := by
  unfold Obligations.IllegalOpcodeFaultEntry
  refine ⟨fun op s _ => ⟨rfl, exec_illegal op s⟩, fun s hready hop => ?_⟩
  have hfetched : s.fetchInstr = .illegal (s.read8 s.pc) := decodeBytes_of_mem_illegalOpcodes hop _ _
  rw [step_ready hready, hfetched]
  exact exec_illegal _ s

end Sys2Proof.Machine

/-! Rotates of A and the prefixed table (R280 to R295): the shared rules' results as numbers and bits, then the forms that perform
them. -/

namespace Sys2Proof.Machine

/-! The rotates and shifts on numbers. -/

theorem getLsbD_seven_eq_decide (v : Byte) : v.getLsbD 7 = decide (128 ≤ v.toNat) := BitVec.msb_eq_decide v

theorem getLsbD_zero_eq_decide (v : Byte) : v.getLsbD 0 = decide (v.toNat % 2 = 1) := Nat.testBit_zero v.toNat

theorem getLsbD_seven_toNat (v : Byte) : (v.getLsbD 7).toNat = v.toNat / 128 := by
  revert v; decide

theorem getLsbD_zero_toNat (v : Byte) : (v.getLsbD 0).toNat = v.toNat % 2 := by
  revert v; decide

/-- A shift to the left with a flag moved in below (R285, R287). -/
theorem shiftLeft_or_bit0_toNat (v : Byte) (c : Bool) : ((v <<< 1) ||| bit0 c).toNat = (2 * v.toNat) % 256 + c.toNat := by
  revert v c; decide

/-- A shift to the right with a flag moved in above (R286, R288, R290). -/
theorem shiftRight_or_bit7_toNat (v : Byte) (c : Bool) : ((v >>> 1) ||| bit7 c).toNat = v.toNat / 2 + 128 * c.toNat := by
  revert v c; decide

/-- The exchange of the two nibbles (R291). -/
theorem swapNibbles_toNat (v : Byte) : ((v <<< 4) ||| (v >>> 4)).toNat = 16 * (v.toNat % 16) + v.toNat / 16 := by
  revert v; decide

/-- The bit that an arithmetic shift to the right keeps is the sign bit, moved in above (R290). -/
theorem and_signMask_eq_bit7 (v : Byte) : v &&& 0x80 = bit7 (v.getLsbD 7) := by
  revert v; decide

/-- The result of a rotate or shift is that of its arithmetic on numbers (R285 to R292): each but SWAP moves one bit out and one
in, which is 0 for SLA and SRL. -/
theorem shift8_res_toNat (op : ShiftOp) (v : Byte) (cin : Bool) : (shift8 op v cin).1.toNat = (shiftNumber op v.toNat cin.toNat).1 := by
  cases op with
  | rlc => rw [shift8, shiftLeft_or_bit0_toNat, getLsbD_seven_toNat]; rfl
  | rrc => rw [shift8, shiftRight_or_bit7_toNat, getLsbD_zero_toNat]; rfl
  | rl => exact shiftLeft_or_bit0_toNat v cin
  | rr => exact shiftRight_or_bit7_toNat v cin
  | sla => rw [shift8, BitVec.toNat_shiftLeft, Nat.shiftLeft_eq, Nat.mul_comm]; rfl
  | sra => rw [shift8, and_signMask_eq_bit7, shiftRight_or_bit7_toNat, getLsbD_seven_toNat]; rfl
  | swap => exact swapNibbles_toNat v
  | srl => exact BitVec.toNat_ushiftRight v 1

/-- The carry of a rotate or shift is the bit moved out: bit 7 to the left, bit 0 to the right, none for SWAP (R285 to R292). -/
theorem shift8_carry (op : ShiftOp) (v : Byte) (cin : Bool) : (shift8 op v cin).2 = (shiftNumber op v.toNat cin.toNat).2 := by
  cases op with
  | rlc | rl | sla => exact getLsbD_seven_eq_decide v
  | rrc | rr | sra | srl => exact getLsbD_zero_eq_decide v
  | swap => rfl

/-! RLCA, RRCA, RLA, RRA. -/

theorem rotateA_perform : ∀ form ∈ Forms.rotateA, PrimaryRow form.2.1 [form.1] false fun t => t.rotateA form.2.2 := by
  intro form hform
  fin_cases hform <;> exact ⟨rfl, fun _ => rfl, rfl⟩

/-- Settles O58: each form rotates A as its operation does on numbers, and clears Z whatever the result. -/
theorem rotateAResult : Obligations.RotateAResult := by
  unfold Obligations.RotateAResult
  intro form hform s
  have row := rotateA_perform form hform
  refine ⟨row.encode, row.exec_core, fun hfull => ⟨_, _, row.exec_full hfull, shift8_res_toNat _ _ _, ?_⟩⟩
  rw [← shift8_carry]
  exact flagsAre_packFlags _ _ _ _

/-! One bit of a byte. -/

/-- What BIT writes to Z (R293). -/
theorem not_getLsbD_eq_decide (v : Byte) (b : Nat) : (!v.getLsbD b) = decide (v.toNat / 2 ^ b % 2 = 0) := by
  rw [BitVec.getLsbD, Nat.testBit_eq_decide_div_mod_eq, ← decide_not, decide_eq_decide]
  omega

theorem bitMask_getLsbD (b k : Nat) : (bitMask b).getLsbD k = (decide (b < 8) && decide (b = k)) := BitVec.getLsbD_twoPow b k

/-- RES clears its own bit and leaves the others (R294). -/
theorem and_not_bitMask_getLsbD (v : Byte) (b k : Nat) : (v &&& ~~~(bitMask b)).getLsbD k = if k = b then false else v.getLsbD k := by
  rw [BitVec.getLsbD_and, BitVec.getLsbD_not, bitMask_getLsbD]
  by_cases hkb : k = b
  · simp [hkb]
  · simpa [hkb, Ne.symm hkb] using BitVec.lt_of_getLsbD

/-- SET sets its own bit and leaves the others (R295). -/
theorem or_bitMask_getLsbD (v : Byte) (b : Nat) {k : Nat} (hk : k < 8) :
    (v ||| bitMask b).getLsbD k = if k = b then true else v.getLsbD k := by
  rw [BitVec.getLsbD_or, bitMask_getLsbD]
  by_cases hkb : k = b
  · simp [← hkb, hk]
  · simp [hkb, Ne.symm hkb]

/-! The rows of the prefixed table. -/

/-- `i` is the row of the prefixed table whose second byte is `op2`, and it performs `rule` (R126, R135, R137). -/
structure PrefixedRow (i : Instr) (op2 : Byte) (rule : State → State) : Prop where
  decoded : i = decodePrefixed op2
  performs : ∀ s, exec i s = perform i rule s

theorem PrefixedRow.encode {i : Instr} {op2 : Byte} {rule : State → State} (row : PrefixedRow i op2 rule) : encode i = [0xCB, op2] := by
  rw [row.decoded]
  exact encode_decodePrefixed op2

theorem PrefixedRow.exists_descriptor {i : Instr} {op2 : Byte} {rule : State → State} (row : PrefixedRow i op2 rule) :
    ∃ d, i.descriptor = some d ∧ d.prefixed = true ∧ d.opcode = op2 ∧ d.length = 2 ∧ d.implemented .core = false := by
  rw [row.decoded]
  exact exists_descriptor_decodePrefixed op2

/-- In FULL every prefixed row performs its rule (R136). -/
theorem PrefixedRow.exec_full {i : Instr} {op2 : Byte} {rule : State → State} (row : PrefixedRow i op2 rule) {s : State}
    (hfull : s.cfg.profile = .full) : exec i s = .next (rule (s.past i 2)) := by
  obtain ⟨d, hd, -, -, hlength, -⟩ := row.exists_descriptor
  rw [row.performs, perform_full rule hd hfull, s.start_eq_past hd, hlength]

/-- In CORE every prefixed row raises UnsupportedOpcode, with both its bytes (R302). -/
theorem PrefixedRow.exec_core {i : Instr} {op2 : Byte} {rule : State → State} (row : PrefixedRow i op2 rule) {s : State}
    (hcore : s.cfg.profile = .core) : exec i s = .next (s.unsupported [0xCB, op2] true) := by
  obtain ⟨d, hd, hprefixed, hopcode, -, himpl⟩ := row.exists_descriptor
  rw [row.performs, perform_core_unsupported rule hd hcore himpl, Descriptor.opcodeBytes, hprefixed, hopcode]
  rfl

/-- Writing the operand from the state past a row: the store is that of the state before the row (R284). -/
theorem PrefixedRow.put8_past {i : Instr} {op2 : Byte} {rule : State → State} (row : PrefixedRow i op2 rule) (s : State) (r : R8)
    (v : Byte) : (s.past i 2).put8 r v = { s.put8 r v with pc := s.pc + 2, lastDecoded := i.descriptor } := by
  obtain ⟨d, hd, -, -, hlength, -⟩ := row.exists_descriptor
  rw [← hlength, ← s.start_eq_past hd, State.put8_start, hd, State.start, State.put8_pc, hlength]
  rfl

/-- Every form of a family, with second byte, operation or bit number, and operand, is a row of the prefixed table that performs the
family's rule on them. -/
def PerformPrefixed {α : Type} (forms : List (Byte × Instr × α × R8)) (rule : α → R8 → State → State) : Prop :=
  ∀ form ∈ forms, PrefixedRow form.2.1 form.1 (rule form.2.2.1 form.2.2.2)

theorem shift_perform : PerformPrefixed Forms.shift fun op r t => t.shiftOperand op r := by
  intro form hform
  fin_cases hform <;> exact ⟨rfl, fun _ => rfl⟩

theorem bit_perform : PerformPrefixed Forms.bit fun b r t => t.testBit b r := by
  intro form hform
  fin_cases hform <;> exact ⟨rfl, fun _ => rfl⟩

theorem res_perform : PerformPrefixed Forms.res fun b r t => t.resetBit b r := by
  intro form hform
  fin_cases hform <;> exact ⟨rfl, fun _ => rfl⟩

theorem set_perform : PerformPrefixed Forms.set fun b r t => t.setBit b r := by
  intro form hform
  fin_cases hform <;> exact ⟨rfl, fun _ => rfl⟩

/-- Encoding and CORE (R284, R302) do not depend on the family's rule. -/
theorem PerformPrefixed.encode_and_exec_core {α : Type} {forms : List (Byte × Instr × α × R8)} {rule : α → R8 → State → State}
    (h : PerformPrefixed forms rule) {form : Byte × Instr × α × R8} (hform : form ∈ forms) (s : State) :
    encode form.2.1 = [0xCB, form.1] ∧
      (s.cfg.profile = .core → exec form.2.1 s = .next (s.unsupported [0xCB, form.1] true)) :=
  ⟨(h form hform).encode, (h form hform).exec_core⟩

/-- Settles O59: the result and the flags come from the operand's value before the store. -/
theorem shiftResult : Obligations.ShiftResult := by
  unfold Obligations.ShiftResult
  intro form hform s
  have row := shift_perform form hform
  refine ⟨row.encode, row.exec_core, fun hfull => ?_⟩
  have hexec : exec form.2.1 s = .next ((s.past form.2.1 2).shiftOperand form.2.2.1 form.2.2.2) := row.exec_full hfull
  rw [State.shiftOperand, State.past_get8, row.put8_past] at hexec
  refine ⟨_, _, hexec, shift8_res_toNat _ _ _, ?_⟩
  rw [← shift8_carry]
  exact flagsAre_packFlags _ _ _ _

/-- Settles O60: BIT writes the complement of its bit to Z; RES and SET store the operand with the one bit changed. -/
theorem bitResult : Obligations.BitResult := by
  unfold Obligations.BitResult
  refine ⟨fun form hform s => ?_, fun form hform s hfull => ?_, fun form hform s hfull => ?_, fun form hform s hfull => ?_⟩
  · simp only [List.mem_append] at hform
    obtain (hbit | hres) | hset := hform
    · exact bit_perform.encode_and_exec_core hbit s
    · exact res_perform.encode_and_exec_core hres s
    · exact set_perform.encode_and_exec_core hset s
  · have hexec : exec form.2.1 s = .next ((s.past form.2.1 2).testBit form.2.2.1 form.2.2.2) :=
      (bit_perform form hform).exec_full hfull
    rw [State.testBit, State.past_get8, not_getLsbD_eq_decide] at hexec
    exact ⟨_, hexec, flagsAre_packFlags _ _ _ _⟩
  · have hexec : exec form.2.1 s = .next ((s.past form.2.1 2).resetBit form.2.2.1 form.2.2.2) :=
      (res_perform form hform).exec_full hfull
    rw [State.resetBit, State.past_get8] at hexec
    exact ⟨_, hexec, and_not_bitMask_getLsbD _ _⟩
  · have hexec : exec form.2.1 s = .next ((s.past form.2.1 2).setBit form.2.2.1 form.2.2.2) :=
      (set_perform form hform).exec_full hfull
    rw [State.setBit, State.past_get8] at hexec
    exact ⟨_, hexec, fun _ => or_bitMask_getLsbD _ _⟩

end Sys2Proof.Machine

/-! The step as the host sees it, UnsupportedOpcode, and what a fault writes (R302, R304 to R307, R314, R315). -/

namespace Sys2Proof.Machine

/-- An unloaded core has no move (R315). -/
theorem step_absent {s : State} (h : s.cart = .absent) : step s = .refused .noCartridge := if_pos h

/-- A recorded fault is returned again (R305). -/
theorem step_faulted {s : State} {f : Fault} (hcart : s.cart ≠ .absent) (hfault : s.fault = some f) : step s = .fault f := by
  simp [step, hcart, hfault]

/-- A core that does not run makes no progress (R314). -/
theorem step_not_running {s : State} (hcart : s.cart ≠ .absent) (hfault : s.fault = none) (hrun : s.run ≠ .running) :
    step s = .next s := by
  cases hr : s.run with
  | running => exact absurd hr hrun
  | stopped | halted => simp [step, hcart, hfault, hr]

/-- Settles O6: one branch of the step for each of the three. -/
theorem stepWithoutExecution : Obligations.StepWithoutExecution := by
  unfold Obligations.StepWithoutExecution
  exact ⟨fun _ => step_absent, fun _ _ => step_faulted, fun _ => step_not_running⟩

/-- Settles O13: an instruction that does not raise a fault runs a rule, which keeps the fault field. -/
theorem faultsWriteNothingElse : Obligations.FaultsWriteNothingElse := by
  unfold Obligations.FaultsWriteNothingElse
  intro i s t h hne
  rcases exec_cases h with hraise | ⟨_, _, _, hkeeps⟩
  · exact hraise
  · exact absurd hkeeps.fault hne

/-- What the host is told of a step that executed or raised a fault: an error where the state left records a fault (R304, R305). -/
def StepResult.ofFault : Option Fault → StepResult
  | none => .ok
  | some f => .error f

@[simp] theorem StepResult.ofFault_eq_error_iff (o : Option Fault) (f : Fault) : StepResult.ofFault o = .error f ↔ o = some f := by
  cases o <;> simp [StepResult.ofFault]

@[simp] theorem StepResult.ofFault_ne_noProgress (o : Option Fault) : StepResult.ofFault o ≠ .noProgress := by
  cases o <;> nofun

/-- The host has no move on an unloaded core (R315). -/
theorem State.hostStep_absent {s : State} (h : s.cart = .absent) : s.hostStep = none := if_pos h

/-- On a faulted core the host is told the fault (R305). -/
theorem State.hostStep_faulted {s : State} {f : Fault} (hcart : s.cart ≠ .absent) (hfault : s.fault = some f) :
    s.hostStep = some (.error f, s) := by
  simp [State.hostStep, hcart, hfault]

/-- On a core that does not run the host is told that there is no progress (R314). -/
theorem State.hostStep_not_running {s : State} (hcart : s.cart ≠ .absent) (hfault : s.fault = none) (hrun : s.run ≠ .running) :
    s.hostStep = some (.noProgress, s) := by
  cases hr : s.run with
  | running => exact absurd hr hrun
  | stopped | halted => simp [State.hostStep, hcart, hfault, hr]

/-- On a ready core the host is told whether the step raised a fault (R304, R306). -/
theorem State.hostStep_ready {s t : State} (hready : s.ready) (h : step s = .next t) : s.hostStep = some (.ofFault t.fault, t) := by
  rw [step_ready hready] at h
  obtain ⟨hcart, hfault, hrun⟩ := hready
  cases ht : t.fault <;> simp [State.hostStep, hcart, hfault, hrun, h, ht, StepResult.ofFault]

/-- Settles O7: the host's answer and the state it leaves are computed on an unloaded, a faulted, an idle and a ready core. -/
theorem hostStepAnswers : Obligations.HostStepAnswers := by
  unfold Obligations.HostStepAnswers
  intro s
  by_cases hcart : s.cart = .absent
  · simp [State.hostStep_absent hcart, hcart]
  cases hfault : s.fault with
  | some f => simp [State.hostStep_faulted hcart hfault, hcart, hfault]
  | none =>
    by_cases hrun : s.run = .running
    · have hready : s.ready := ⟨hcart, hfault, hrun⟩
      obtain ⟨t, ht⟩ := execAlwaysAnswersANextState s.fetchInstr s
      rw [← step_ready hready] at ht
      simp [State.hostStep_ready hready ht, hcart, hrun, ht]
    · simp [State.hostStep_not_running hcart hfault hrun, step_not_running hcart hfault hrun, hcart, hfault, hrun]

/-- The opcodes of the primary table that only FULL implements (R302). -/
def fullOnlyOpcodes : List Byte :=
  [0x07, 0x0F, 0x17, 0x1F, 0x27, 0x37, 0x76, 0x88, 0x89, 0x8A, 0x8B, 0x8C, 0x8D, 0x8E, 0x8F, 0xCE, 0xFB]

/-- The row of each of them (R133): a fault records its one byte (R302), and CORE does not implement it (R136). -/
theorem exists_descriptor_of_mem_fullOnlyOpcodes {op : Byte} (h : op ∈ fullOnlyOpcodes) (b1 b2 : Byte) :
    ∃ d, (decodeBytes op b1 b2).descriptor = some d ∧ d.opcodeBytes = [op] ∧ d.prefixed = false ∧ d.implemented .core = false := by
  fin_cases h
  all_goals exact ⟨_, rfl, rfl, rfl, rfl⟩

/-- Under the prefix, the instruction at PC is the prefixed one (R266). -/
theorem State.fetchInstr_prefixed {s : State} (h : s.read8 s.pc = 0xCB) : s.fetchInstr = decodePrefixed (s.read8 (s.pc + 1)) := if_pos h

/-- The first byte of a decoded instruction is the one it was decoded from. -/
theorem encode_decodeBytes_head? (b0 b1 b2 : Byte) : (encode (decodeBytes b0 b1 b2)).head? = some b0 := by
  obtain ⟨_, _, hbytes, -⟩ := readsBack_of_wf (wf_decodeBytes b0 b1 b2)
  rw [encode_decodeBytes] at hbytes ⊢
  cases hlength : instrLength b0 with
  | zero => rw [hlength] at hbytes; cases hbytes
  | succ n => rfl

/-- What is decoded from a first byte that R136 does not list is illegal or implemented by CORE. -/
theorem implemented_core_decodeBytes {b0 b1 b2 : Byte} (h : some b0 ∉ fullOnlyFirstBytes) {d : Descriptor}
    (hd : (decodeBytes b0 b1 b2).descriptor = some d) : d.implemented .core = true := by
  have himpl := implemented_core_eq (decodeBytes b0 b1 b2)
  rw [encode_decodeBytes_head?, Instr.implemented, hd] at himpl
  simpa [h] using himpl

/-- The instruction at PC performs a rule of its own, since it is never the row PREFIX CB (R137, R266). -/
theorem State.exec_fetchInstr_performs (s : State) :
    ∃ rule : State → State, (∀ t, exec s.fetchInstr t = perform s.fetchInstr rule t) ∧ ∀ t, Keeps t (rule t) := by
  have hwf : s.fetchInstr.wf = true := wf_decodeBytes _ _ _
  obtain ⟨j, rule, hexec, hkeeps, hj⟩ := exec_performs s.fetchInstr
  obtain rfl := hj.resolve_right fun ⟨op2, hop2, _⟩ => ne_prefixCb_of_wf hwf ⟨op2, hop2⟩
  exact ⟨rule, hexec, hkeeps⟩

/-- A ready state whose profile implements what is at PC, unless that is illegal, records no UnsupportedOpcode (R302). -/
theorem step_fault_ne_unsupportedOpcode {s t : State} (hready : s.ready)
    (himpl : ∀ d, s.fetchInstr.descriptor = some d → d.implemented s.cfg.profile = true) (h : step s = .next t) (info : FaultInfo) :
    t.fault ≠ some (.unsupportedOpcode info) := by
  obtain ⟨rule, hexec, hkeeps⟩ := s.exec_fetchInstr_performs
  rw [step_ready hready, hexec] at h
  obtain ⟨-, hfault, -⟩ := hready
  cases hd : s.fetchInstr.descriptor with
  | none =>
    rw [perform_illegal rule hd] at h
    cases h
    nofun
  | some d =>
    rw [perform_implemented rule hd (himpl d hd)] at h
    cases h
    rw [(hkeeps _).fault, State.start_fault, hfault]
    nofun

/-- Settles O11: in CORE a listed opcode is a row that only FULL implements, a prefixed one is as in O14, and any other is illegal or
implemented; FULL implements every row. -/
theorem unsupportedOpcodeFaultEntry : Obligations.UnsupportedOpcodeFaultEntry := by
  unfold Obligations.UnsupportedOpcodeFaultEntry
  refine ⟨fun s hready hcore hop => ?_, fun s hready hcore hprefix => ?_, fun s t hready hcore hop h => ?_,
    fun s t hready hfull h => ?_⟩
  · obtain ⟨rule, hexec, -⟩ := s.exec_fetchInstr_performs
    obtain ⟨d, hd, hopcode, hprefixed, himpl⟩ :=
      exists_descriptor_of_mem_fullOnlyOpcodes hop (s.read8 (s.pc + 1)) (s.read8 (s.pc + 2))
    rw [step_ready hready, hexec, perform_core_unsupported (i := s.fetchInstr) rule hd hcore himpl, hopcode, hprefixed]
  · obtain ⟨hexec, hunsupported, -⟩ := prefixCbPerformsThePrefixedInstruction (s.read8 (s.pc + 1)) s
    rw [step_ready hready, State.fetchInstr_prefixed hprefix, ← hexec]
    exact hunsupported hcore
  · have hlisted : some (s.read8 s.pc) ∉ fullOnlyFirstBytes := by
      -- The two lists differ in their order only.
      simpa [fullOnlyFirstBytes, and_comm, and_left_comm] using hop
    refine step_fault_ne_unsupportedOpcode hready (fun d hd => ?_) h
    rw [hcore]
    exact implemented_core_decodeBytes hlisted hd
  · refine step_fault_ne_unsupportedOpcode hready (fun d _ => ?_) h
    rw [hfull, Descriptor.implemented_full]

end Sys2Proof.Machine
